-- ==== Sys2Proof/Word.lean ====
section
/-!
DEFINITION. The plain value types of the IOTE block (spec 00_scope.md rules R10 to R12, R18, R112, R113).
-/

namespace Sys2Proof

/-- A byte, value 0..255, bit 0 least significant (R10). -/
abbrev Byte := BitVec 8

/-- A 32-bit command word (R116). -/
abbrev Word := BitVec 32

/-- A 16-bit raw analog value; its signed reading is `BitVec.toInt` (R10, R25). -/
abbrev Raw := BitVec 16

/-- A BitPattern: element `i` is the level for control line D_i and bit `i` of the pattern (R18, R78). -/
abbrev Pattern := BitVec 16

/-- A voltage: an exact rational number of volts (R11). -/
abbrev Volts := Rat

/-- A time: an exact rational number of seconds (R12). -/
abbrev Time := Rat

/-- A text (a directive string, a pin name) as the list of its characters (R40, R111). -/
abbrev Text := List Char

/-- A datagram payload of any length (R15). -/
abbrev Datagram := List Byte

/-- A buffer of exactly 64 bytes, the format `R` of a received frame (R27, R100). -/
abbrev RxBuffer := Vector Byte 64

/-- The number of a facade pin, the `pin:int` of `digitalWrite` (R36, R60). -/
abbrev FacadePin := Int

end Sys2Proof
end

