-- ==== Sys2Proof/Syntax.lean ====
section
/-!
DEFINITION. The operations and events of the IOTE block as data: one constructor per row of the opcode table
(spec 30_encoding.md rules R117, R118), and the parsed directives (rule R42).
-/

namespace Sys2Proof

/-- The two mux addressing schemes (R7, R17). -/
inductive Scheme where
  | A
  | B
  deriving DecidableEq, Repr, Inhabited

/-- The kind of a stimulus: an analog or a digital output (R42). -/
inductive StimKind where
  | AO
  | DO
  deriving DecidableEq, Repr, Inhabited

/-- A parsed stimulus directive (R42, R112). -/
structure Stimulus where
  card   : Nat
  kind   : StimKind
  number : Nat
  value  : Int
  deriving DecidableEq, Repr, Inhabited

/-- A parsed logic expectation (R42, R113). -/
structure LogicExpectation where
  card   : Nat
  number : Nat
  bit    : Bool
  deriving DecidableEq, Repr, Inhabited

/-- The operations and events, in the order of R117. `card` is the command word's card field, the other
operands are those of R118: an index, rows and columns, a signed millivolt value, a pin and a scheme, a
BitPattern, a subject index, two pairs. -/
inductive Instr where
  /-- `setDigitalOutput` (R131). -/
  | sdo (card n : Nat) (state : Bool)
  /-- `getDigitalOutput` (R133). -/
  | gdo (card n : Nat)
  /-- `setTTLOutput` (R137). -/
  | sttl (card n : Nat) (state : Bool)
  /-- `getTTLOutput` (R139). -/
  | gttl (card n : Nat)
  /-- `setMatrixDimensions` (R141). -/
  | smd (card rows cols : Nat)
  /-- `getMatrixDimensions` (R143). -/
  | gmd (card : Nat)
  /-- `setAnalogOutput`, the voltage in millivolts (R145, R118). -/
  | sao (card n : Nat) (mv : Int)
  /-- `getAnalogOutput` (R147). -/
  | gao (card n : Nat)
  /-- `encode` (R150). -/
  | enc (card : Nat)
  /-- `getDigitalInput` (R153). -/
  | gdi (card n : Nat)
  /-- `getDigitalInputsActive` (R154). -/
  | gdia (card : Nat)
  /-- `getAnalogInput` (R155). -/
  | gai (card n : Nat)
  /-- `getTTLStatus` (R156). -/
  | gts (card : Nat)
  /-- `parse`; the payload arrives on wire-RX (R152). -/
  | parse (card : Nat)
  /-- `start` (R171). -/
  | start (card : Nat)
  /-- `stop` (R172). -/
  | stop (card : Nat)
  /-- the `communicationActive` query (R180). -/
  | live (card : Nat)
  /-- `startAll` (R188). -/
  | startall
  /-- `stopAll` (R189). -/
  | stopall
  /-- event: the send-loop tick (R176). -/
  | tick (card : Nat)
  /-- event: a datagram arrives (R178, R179). -/
  | rx (card : Nat)
  /-- event: the bounded receive wait expired (R181). -/
  | rxwait (card : Nat)
  /-- the static lookup (R201). -/
  | lookup (pin : Nat) (scheme : Scheme)
  /-- `route` (R204). -/
  | route (pin : Nat) (scheme : Scheme)
  /-- `clearAll` (R206). -/
  | clrall
  /-- `clearBits` (R207). -/
  | clrbits (pattern : Pattern)
  /-- `PowerTest` of the subject with this index (R231). -/
  | pwr (subject : Nat)
  /-- `PullUpTest` (R240). -/
  | pup (subject : Nat)
  /-- `LogicTest` (R247). -/
  | lgc (subject : Nat)
  /-- `ShortCircuitTest` (R253). -/
  | sct
  /-- `RelayFuseTest` of two pairs (R257). -/
  | rft (pairA pairB : Nat)
  /-- the test sequence (R260). -/
  | runseq
  /-- the stop request (R264). -/
  | reqstop
  /-- the facade's `close()` (R266). -/
  | close
  deriving DecidableEq, Repr, Inhabited

end Sys2Proof
end

