-- ==== Sys2Proof/WellFormed.lean ====
section
/-!
DEFINITION. Which instructions a 32-bit command word can express: each operand fits its field of format `K`
(spec 30_encoding.md rules R116, R118). An operand that fits its field and lies outside the operation's domain
(DO 33, pin 51, rows 9) is well formed here: the operation itself answers RangeError (R118).
-/

namespace Sys2Proof

/-- The card field `card[25:23]` holds 0..7 (R116). -/
def fitsCard (card : Nat) : Bool := decide (card < 8)

/-- The operand field `a[22:16]` holds 0..127 (R116). -/
def fitsA (a : Nat) : Bool := decide (a < 128)

/-- The columns of SMD are `b[7:0]`, 0..255 (R118). -/
def fitsCols (cols : Nat) : Bool := decide (cols < 256)

/-- The millivolts of SAO are the signed reading of `b`, -32768..32767 (R118). -/
def fitsMillivolts (mv : Int) : Bool := decide (-32768 ≤ mv ∧ mv ≤ 32767)

/-- The second pair of RFT is `b[6:0]`, 0..127 (R118). -/
def fitsPairB (k : Nat) : Bool := decide (k < 128)

/-- Every operand fits its field. -/
def Instr.wf : Instr → Bool
  | .sdo c n _ => fitsCard c && fitsA n
  | .gdo c n => fitsCard c && fitsA n
  | .sttl c n _ => fitsCard c && fitsA n
  | .gttl c n => fitsCard c && fitsA n
  | .smd c rows cols => fitsCard c && fitsA rows && fitsCols cols
  | .gmd c => fitsCard c
  | .sao c n mv => fitsCard c && fitsA n && fitsMillivolts mv
  | .gao c n => fitsCard c && fitsA n
  | .enc c => fitsCard c
  | .gdi c n => fitsCard c && fitsA n
  | .gdia c => fitsCard c
  | .gai c n => fitsCard c && fitsA n
  | .gts c => fitsCard c
  | .parse c => fitsCard c
  | .start c => fitsCard c
  | .stop c => fitsCard c
  | .live c => fitsCard c
  | .startall => true
  | .stopall => true
  | .tick c => fitsCard c
  | .rx c => fitsCard c
  | .rxwait c => fitsCard c
  | .lookup pin _ => fitsA pin
  | .route pin _ => fitsA pin
  | .clrall => true
  | .clrbits _ => true
  | .pwr i => fitsA i
  | .pup i => fitsA i
  | .lgc i => fitsA i
  | .sct => true
  | .rft ka kb => fitsA ka && fitsPairB kb
  | .runseq => true
  | .reqstop => true
  | .close => true

end Sys2Proof
end

