-- ==== Sys2Proof/Decode.lean ====
section
/-!
DEFINITION. The command word (spec 30_encoding.md rules R116 to R118, R120): its fields, the decoder, the
encoder, the word the host's opcode table numbers, and the textual forms of rule R121.
-/

namespace Sys2Proof

/-- `op[31:26]` (R116). -/
def Word.op (w : Word) : Nat := w.toNat / 2 ^ 26

/-- `card[25:23]` (R116). -/
def Word.card (w : Word) : Nat := w.toNat / 2 ^ 23 % 2 ^ 3

/-- `a[22:16]` (R116). -/
def Word.a (w : Word) : Nat := w.toNat / 2 ^ 16 % 2 ^ 7

/-- `b[15:0]` (R116). -/
def Word.b (w : Word) : Nat := w.toNat % 2 ^ 16

/-- `b[0]` as a Boolean: the state of SDO and STTL (R118). -/
def Word.flag (w : Word) : Bool := decide (w.b % 2 = 1)

/-- `b[0]` as a scheme: 0 is A, 1 is B (R118). -/
def Word.scheme (w : Word) : Scheme := if w.b % 2 = 1 then .B else .A

/-- `b[7:0]`: the columns of SMD (R118). -/
def Word.cols (w : Word) : Nat := w.b % 2 ^ 8

/-- `sext_16(b)`: the millivolts of SAO (R13, R118). -/
def Word.millivolts (w : Word) : Int := if w.b < 2 ^ 15 then (w.b : Int) else (w.b : Int) - 2 ^ 16

/-- `b` as a BitPattern: the operand of CLRBITS (R118). -/
def Word.pattern (w : Word) : Pattern := BitVec.ofNat 16 w.b

/-- `b[6:0]`: the second pair of RFT (R118). -/
def Word.pairB (w : Word) : Nat := w.b % 2 ^ 7

/-- Why a word is no operation and no event of the block (R120). -/
inductive DecodeError where
  /-- the opcode is unassigned -/
  | unassigned (op : Nat)
  deriving DecidableEq, Repr

/-- The decoder (R117, R118). A field an operation does not use is ignored (R116). -/
def decode (w : Word) : Except DecodeError Instr :=
  match w.op with
  | 0x01 => .ok (.sdo w.card w.a w.flag)
  | 0x02 => .ok (.gdo w.card w.a)
  | 0x03 => .ok (.sttl w.card w.a w.flag)
  | 0x04 => .ok (.gttl w.card w.a)
  | 0x05 => .ok (.smd w.card w.a w.cols)
  | 0x06 => .ok (.gmd w.card)
  | 0x07 => .ok (.sao w.card w.a w.millivolts)
  | 0x08 => .ok (.gao w.card w.a)
  | 0x09 => .ok (.enc w.card)
  | 0x0A => .ok (.gdi w.card w.a)
  | 0x0B => .ok (.gdia w.card)
  | 0x0C => .ok (.gai w.card w.a)
  | 0x0D => .ok (.gts w.card)
  | 0x0E => .ok (.parse w.card)
  | 0x10 => .ok (.start w.card)
  | 0x11 => .ok (.stop w.card)
  | 0x12 => .ok (.live w.card)
  | 0x13 => .ok .startall
  | 0x14 => .ok .stopall
  | 0x15 => .ok (.tick w.card)
  | 0x16 => .ok (.rx w.card)
  | 0x17 => .ok (.rxwait w.card)
  | 0x20 => .ok (.lookup w.a w.scheme)
  | 0x21 => .ok (.route w.a w.scheme)
  | 0x22 => .ok .clrall
  | 0x23 => .ok (.clrbits w.pattern)
  | 0x28 => .ok (.pwr w.a)
  | 0x29 => .ok (.pup w.a)
  | 0x2A => .ok (.lgc w.a)
  | 0x2B => .ok .sct
  | 0x2C => .ok (.rft w.a w.pairB)
  | 0x2D => .ok .runseq
  | 0x2E => .ok .reqstop
  | 0x2F => .ok .close
  | op => .error (.unassigned op)

/-- Does the operation's row of R117 have kind `ev`: an event that a loop takes and no caller requests? -/
def Instr.isEvent : Instr → Bool
  | .tick _ => true
  | .rx _ => true
  | .rxwait _ => true
  | _ => false

/-- The opcode of R117. -/
def Instr.opcode : Instr → Nat
  | .sdo .. => 0x01
  | .gdo .. => 0x02
  | .sttl .. => 0x03
  | .gttl .. => 0x04
  | .smd .. => 0x05
  | .gmd .. => 0x06
  | .sao .. => 0x07
  | .gao .. => 0x08
  | .enc .. => 0x09
  | .gdi .. => 0x0A
  | .gdia .. => 0x0B
  | .gai .. => 0x0C
  | .gts .. => 0x0D
  | .parse .. => 0x0E
  | .start .. => 0x10
  | .stop .. => 0x11
  | .live .. => 0x12
  | .startall => 0x13
  | .stopall => 0x14
  | .tick .. => 0x15
  | .rx .. => 0x16
  | .rxwait .. => 0x17
  | .lookup .. => 0x20
  | .route .. => 0x21
  | .clrall => 0x22
  | .clrbits .. => 0x23
  | .pwr .. => 0x28
  | .pup .. => 0x29
  | .lgc .. => 0x2A
  | .sct => 0x2B
  | .rft .. => 0x2C
  | .runseq => 0x2D
  | .reqstop => 0x2E
  | .close => 0x2F

/-- Format `K` put together: `op * 2^26 + card * 2^23 + a * 2^16 + b` (R116). -/
def packK (op card a b : Nat) : Word :=
  BitVec.ofNat 32 (op * 2 ^ 26 + card * 2 ^ 23 + a * 2 ^ 16 + b)

/-- A Boolean in bit 0 of `b` (R118). -/
def flagBits (s : Bool) : Nat := if s then 1 else 0

/-- A scheme in bit 0 of `b` (R118). -/
def schemeBits : Scheme → Nat
  | .A => 0
  | .B => 1

/-- A signed 16-bit value as the 16 bits of `b` (R118). -/
def signedBits (v : Int) : Nat := (v % 2 ^ 16).toNat

/-- The encoder: the command word of an instruction, unused fields zero (R116 to R118). -/
def encode : Instr → Word
  | .sdo c n s => packK 0x01 c n (flagBits s)
  | .gdo c n => packK 0x02 c n 0
  | .sttl c n s => packK 0x03 c n (flagBits s)
  | .gttl c n => packK 0x04 c n 0
  | .smd c rows cols => packK 0x05 c rows cols
  | .gmd c => packK 0x06 c 0 0
  | .sao c n mv => packK 0x07 c n (signedBits mv)
  | .gao c n => packK 0x08 c n 0
  | .enc c => packK 0x09 c 0 0
  | .gdi c n => packK 0x0A c n 0
  | .gdia c => packK 0x0B c 0 0
  | .gai c n => packK 0x0C c n 0
  | .gts c => packK 0x0D c 0 0
  | .parse c => packK 0x0E c 0 0
  | .start c => packK 0x10 c 0 0
  | .stop c => packK 0x11 c 0 0
  | .live c => packK 0x12 c 0 0
  | .startall => packK 0x13 0 0 0
  | .stopall => packK 0x14 0 0 0
  | .tick c => packK 0x15 c 0 0
  | .rx c => packK 0x16 c 0 0
  | .rxwait c => packK 0x17 c 0 0
  | .lookup pin sch => packK 0x20 0 pin (schemeBits sch)
  | .route pin sch => packK 0x21 0 pin (schemeBits sch)
  | .clrall => packK 0x22 0 0 0
  | .clrbits p => packK 0x23 0 0 p.toNat
  | .pwr i => packK 0x28 0 i 0
  | .pup i => packK 0x29 0 i 0
  | .lgc i => packK 0x2A 0 i 0
  | .sct => packK 0x2B 0 0 0
  | .rft ka kb => packK 0x2C 0 ka kb
  | .runseq => packK 0x2D 0 0 0
  | .reqstop => packK 0x2E 0 0 0
  | .close => packK 0x2F 0 0 0

/-- The first `nbits` bits of `w` as a command word, the bits above them zero. A command word is one 32-bit
word with bit 0 its least significant bit, so the host's numbering of bits is the spec's own (R116). -/
def tableWord (nbits w : Nat) : Word := BitVec.ofNat 32 (w % 2 ^ nbits)

/-- The instruction the decoder reads from an instruction of the opcode table whose bits are `w`. -/
def decodeTableWord (nbits w : Nat) : Option Instr :=
  match decode (tableWord nbits w) with
  | .ok i => some i
  | .error _ => none

/-! The textual forms of rule R121. -/

/-- The mnemonic of R117. -/
def Instr.mnemonic : Instr → String
  | .sdo .. => "SDO"
  | .gdo .. => "GDO"
  | .sttl .. => "STTL"
  | .gttl .. => "GTTL"
  | .smd .. => "SMD"
  | .gmd .. => "GMD"
  | .sao .. => "SAO"
  | .gao .. => "GAO"
  | .enc .. => "ENC"
  | .gdi .. => "GDI"
  | .gdia .. => "GDIA"
  | .gai .. => "GAI"
  | .gts .. => "GTS"
  | .parse .. => "PARSE"
  | .start .. => "START"
  | .stop .. => "STOP"
  | .live .. => "LIVE"
  | .startall => "STARTALL"
  | .stopall => "STOPALL"
  | .tick .. => "TICK"
  | .rx .. => "RX"
  | .rxwait .. => "RXWAIT"
  | .lookup .. => "LOOKUP"
  | .route .. => "ROUTE"
  | .clrall => "CLRALL"
  | .clrbits .. => "CLRBITS"
  | .pwr .. => "PWR"
  | .pup .. => "PUP"
  | .lgc .. => "LGC"
  | .sct => "SCT"
  | .rft .. => "RFT"
  | .runseq => "RUNSEQ"
  | .reqstop => "REQSTOP"
  | .close => "CLOSE"

/-- A scheme's letter (R121). -/
def schemeText : Scheme → String
  | .A => "A"
  | .B => "B"

/-- The mnemonic form: the mnemonic, `c<card>` where a card is named, then the operands (R121). -/
def Instr.mnemonicForm (i : Instr) : String :=
  i.mnemonic ++ match i with
  | .sdo c n s | .sttl c n s => " c" ++ toString c ++ ", " ++ toString n ++ ", " ++ toString (flagBits s)
  | .gdo c n | .gttl c n | .gao c n | .gdi c n | .gai c n => " c" ++ toString c ++ ", " ++ toString n
  | .smd c rows cols => " c" ++ toString c ++ ", " ++ toString rows ++ ", " ++ toString cols
  | .sao c n mv => " c" ++ toString c ++ ", " ++ toString n ++ ", " ++ toString mv
  | .gmd c | .enc c | .gdia c | .gts c | .parse c | .start c | .stop c | .live c
  | .tick c | .rx c | .rxwait c => " c" ++ toString c
  | .lookup pin sch | .route pin sch => " " ++ toString pin ++ ", " ++ schemeText sch
  | .clrbits p => " 0x" ++ String.ofList (Nat.toDigits 16 p.toNat)
  | .pwr k | .pup k | .lgc k => " " ++ toString k
  | .rft ka kb => " " ++ toString ka ++ ", " ++ toString kb
  | .startall | .stopall | .clrall | .sct | .runseq | .reqstop | .close => ""

/-- A millivolt value as a decimal number of volts, three places (R121: voltages are decimal numbers). -/
def millivoltText (mv : Int) : String :=
  let k := mv.natAbs
  let frac := toString (k % 1000)
  (if mv < 0 then "-" else "") ++ toString (k / 1000) ++ "." ++ String.ofList (List.replicate (3 - frac.length) '0') ++ frac

/-- The source's call syntax: the operation's name and its operands in parentheses, the card id first at the
fleet level (R121). Events and checks, which the source calls by no such form, are written with the name of R117. -/
def Instr.callSyntax : Instr → String
  | .sdo c n s => "setDigitalOutput(" ++ toString c ++ ", " ++ toString n ++ ", " ++ toString s ++ ")"
  | .gdo c n => "getDigitalOutput(" ++ toString c ++ ", " ++ toString n ++ ")"
  | .sttl c n s => "setTTLOutput(" ++ toString c ++ ", " ++ toString n ++ ", " ++ toString s ++ ")"
  | .gttl c n => "getTTLOutput(" ++ toString c ++ ", " ++ toString n ++ ")"
  | .smd c rows cols => "setMatrixDimensions(" ++ toString c ++ ", " ++ toString rows ++ ", " ++ toString cols ++ ")"
  | .gmd c => "getMatrixDimensions(" ++ toString c ++ ")"
  | .sao c n mv => "setAnalogOutput(" ++ toString c ++ ", " ++ toString n ++ ", " ++ millivoltText mv ++ ")"
  | .gao c n => "getAnalogOutput(" ++ toString c ++ ", " ++ toString n ++ ")"
  | .enc c => "encode(" ++ toString c ++ ")"
  | .gdi c n => "getDigitalInput(" ++ toString c ++ ", " ++ toString n ++ ")"
  | .gdia c => "getDigitalInputsActive(" ++ toString c ++ ")"
  | .gai c n => "getAnalogInput(" ++ toString c ++ ", " ++ toString n ++ ")"
  | .gts c => "getTTLStatus(" ++ toString c ++ ")"
  | .parse c => "parse(" ++ toString c ++ ")"
  | .start c => "start(" ++ toString c ++ ")"
  | .stop c => "stop(" ++ toString c ++ ")"
  | .live c => "communicationActive(" ++ toString c ++ ")"
  | .startall => "startAll()"
  | .stopall => "stopAll()"
  | .tick c => "TICK(" ++ toString c ++ ")"
  | .rx c => "RX(" ++ toString c ++ ")"
  | .rxwait c => "RXWAIT(" ++ toString c ++ ")"
  | .lookup pin sch => "lookup(" ++ toString pin ++ ", \"" ++ schemeText sch ++ "\")"
  | .route pin sch => "route(" ++ toString pin ++ ", \"" ++ schemeText sch ++ "\")"
  | .clrall => "clearAll()"
  | .clrbits p => "clearBits(0x" ++ String.ofList (Nat.toDigits 16 p.toNat) ++ ")"
  | .pwr k => "PowerTest(" ++ toString k ++ ")"
  | .pup k => "PullUpTest(" ++ toString k ++ ")"
  | .lgc k => "LogicTest(" ++ toString k ++ ")"
  | .sct => "ShortCircuitTest()"
  | .rft ka kb => "RelayFuseTest(" ++ toString ka ++ ", " ++ toString kb ++ ")"
  | .runseq => "runSequence()"
  | .reqstop => "requestStop()"
  | .close => "close()"

end Sys2Proof
end

