-- ==== Sys2Proof/Config.lean ====
section
/-!
DEFINITION. The configuration record `Cfg` (spec 00_scope.md rules R8, R9), the inputs the outside world can
give the block (rules R12, R15, R16, R47), and the constants without a body that stand for everything the spec
leaves to the platform or calls a draw of the environment (10_state.md rule R47; 93_implementation_defined.md
U1 to U23). Nothing can be proved about the value of such a constant.
-/

namespace Sys2Proof

/-- One entry of `Cfg.card` (R9). An endpoint's form is not in the source (N24): it is carried as an opaque
number. -/
structure CardCfg where
  enabled    : Bool
  txEndpoint : Nat
  rxEndpoint : Nat
  deriving DecidableEq, Repr, Inhabited

/-- The facade pins of one pair: its measurement channel, its pull-up line and its relay-enable pair
(R9, R17: `Cfg.measPin`, `Cfg.pullupPin`, `Cfg.relayPins`). -/
structure PairWiring where
  measPin   : FacadePin
  pullupPin : FacadePin
  relay1    : FacadePin
  relay2    : FacadePin
  deriving DecidableEq, Repr, Inhabited

/-- `Cfg.roundTie`, the tie rule of `round` (R9, R108). -/
inductive RoundTie where
  | halfEven
  | halfAway
  | draw
  deriving DecidableEq, Repr, Inhabited

/-- `Cfg.degrade`: any function from volts to volts, the identity by default (R9, R254 (a)). A correction that is
not the identity is named by a number, and what it computes is not known (`Config.degrade`). -/
inductive Degrade where
  | identity
  | correction (id : Nat)
  deriving DecidableEq, Repr, Inhabited

/-- `Cfg.readBack`: which value a verify step reads back, the local getter by default (R9, R224). Any other
choice is named by a number, and what it reads is not known (`Config.readBackVolts`, `Config.readBackLevel`). -/
inductive ReadBack where
  | localGetter
  | other (id : Nat)
  deriving DecidableEq, Repr, Inhabited

/-- The configuration record `Cfg` (R8, R9). The three fields with a default in the source, and the three with a
default by decision, carry it as the default of the field. The finite lists `pairs` and `sharedPullup` give
the wiring of the pairs they name; the wiring of every other pair is `Config.pairWiring` and
`Config.sharedPullupPin`. -/
structure Cfg where
  card         : Vector (Option CardCfg) 7
  header0      : Byte
  header1      : Byte
  tableA       : Vector Pattern 50
  tableB       : Vector Pattern 50
  linePin      : Vector FacadePin 16
  pairOf       : Vector Nat 50
  pairs        : List (Nat × PairWiring)
  sharedPullup : List ((Nat × Nat) × FacadePin)
  tol          : Volts
  settle       : Time
  lowThreshold : Volts
  verifyWait   : Time
  vScale       : Rat := 1
  degrade      : Degrade := .identity
  readBack     : ReadBack := .localGetter
  roundTie     : RoundTie := .draw
  sendPeriod   : Time := 1 / 20
  commTimeout  : Time := 2
  recvWait     : Time := 1
  deriving DecidableEq, Repr, Inhabited

/-- The constraints on a configuration: the two tables differ at pin 17 (R203), different control lines are behind
different facade pins (R9), the tolerance and the settle delay are not negative (R9), and neither is a duration;
the send period is not zero (R8, R9, R286; that the last four may not be negative is DEDUCED, log entry 1). DESIGN
CHOICE: a pull-up, relay or measurement pin may be the facade pin of a control line, which no constraint of R9
excludes (R206; log entry 39). -/
def Cfg.valid (c : Cfg) : Prop :=
  c.tableA[16] ≠ c.tableB[16] ∧ c.linePin.toList.Nodup ∧ 0 ≤ c.tol ∧ 0 ≤ c.settle ∧ 0 ≤ c.verifyWait ∧
    0 < c.sendPeriod ∧ 0 ≤ c.commTimeout ∧ 0 ≤ c.recvWait

/-- A configuration that meets the constraints, so that there is one. Nothing else uses it. -/
def Cfg.someValid : Cfg :=
  { card := Vector.replicate 7 none
    header0 := 0
    header1 := 0
    tableA := Vector.replicate 50 1
    tableB := Vector.replicate 50 0
    linePin := Vector.ofFn fun i => (i.val : Int)
    pairOf := Vector.replicate 50 0
    pairs := []
    sharedPullup := []
    tol := 0
    settle := 0
    lowThreshold := 0
    verifyWait := 0 }

theorem Cfg.someValid_valid : Cfg.someValid.valid := by
  unfold Cfg.valid
  refine ⟨by decide, by decide, ?_⟩
  norm_num [Cfg.someValid]

/-- What a platform supplies: a configuration that meets the constraints R9 and R203 put on it. -/
structure PlatformCfg where
  cfg   : Cfg := Cfg.someValid
  valid : cfg.valid := by exact Cfg.someValid_valid
  deriving Inhabited

/-- The input fields of a TestSubject record, "supplied externally" (R40, R43). `pin` is meant to be 1..50; a
record that holds another number is refused by the check that uses it (R230). -/
structure SubjectInput where
  pinId          : Text
  pin            : Int
  powerExpected  : Volts
  pullupExpected : Volts
  powerInput     : Text
  pullupInput    : Text
  logicPinInput  : Text
  logicExpected  : Text
  deriving DecidableEq, Repr, Inhabited

/-- What can happen next: which agent takes the next step (R16), and with what. -/
inductive Input where
  /-- The caller presents a command word on the command interface (R15, R116). -/
  | command (w : Word)
  /-- A send loop, a receive loop or the environment takes the event that this word writes down (R117). -/
  | event (w : Word)
  /-- The engine worker takes its next step (R16, R220). -/
  | worker
  /-- The caller of the `k`-th STARTALL or STOPALL in progress, from 0, takes its next card (R16, R188, R189). -/
  | caller (k : Nat)
  /-- The environment's clock shows `t` (R12). -/
  | clock (t : Time)
  /-- The network brings a datagram to wire-RX of a card (R15, R48). -/
  | deliver (card : Nat) (d : Datagram)
  /-- The network takes the oldest datagram off wire-TX of a card (R48). -/
  | carry (card : Nat)
  /-- The subject table is loaded (R43, R300, R302). -/
  | subjects (l : List SubjectInput)
  deriving DecidableEq, Repr, Inhabited

/-- FREE VALUE: the configuration the platform supplies (R9, R302; every field is OPEN within the constraints). -/
opaque Config.platform : PlatformCfg

/-- FREE VALUE: the subject table loaded at construction (R43, R300). -/
opaque Config.subjects : List SubjectInput

/-- FREE VALUE: what the environment's clock shows at construction (R12). -/
opaque Config.startTime : Time

/-- FREE VALUE: the wiring of a pair that `Cfg.pairs` does not name (R9, N12). -/
opaque Config.pairWiring : Nat → PairWiring

/-- FREE VALUE: the shared pull-up of two pairs that `Cfg.sharedPullup` does not name (R9, N22). -/
opaque Config.sharedPullupPin : Nat → Nat → FacadePin

/-- FREE VALUE: what the degradation correction of that name computes (R254 (a), N14). -/
opaque Config.degrade : Nat → Volts → Volts

/-- The fields of a received frame that can be observed: `DI[1..64]`, `TTLSTATUS` and `AI[0..15]`, each as its getter
reads it (R153 to R156). The header, `MROW` and `TAIL` are not among them (R157). -/
structure InputFields where
  di        : List Bool
  ttlStatus : Nat
  ai        : List Int
  deriving DecidableEq, Repr, Inhabited

/-- FREE VALUE: what a read-back of that name reads for an analog output of a card: a function of the card, the
number, the locally held value and the fields of the last received frame (R224, N16; log entry 24). -/
opaque Config.readBackVolts : Nat → Nat → Nat → Option Volts → Option InputFields → Option Volts

/-- FREE VALUE: the same for a digital output (R224, N16; log entry 24). -/
opaque Config.readBackLevel : Nat → Nat → Nat → Option Bool → Option InputFields → Option Bool

/-- FREE VALUE: does the `n`-th draw let both sockets bind (R171, R184)? -/
opaque Config.bindOk : Nat → Bool

/-- FREE VALUE: does the `n`-th draw let the transmit succeed (R176, R184)? -/
opaque Config.sendOk : Nat → Bool

/-- FREE VALUE: does the `n`-th draw let a `digitalWrite` succeed (R277)? -/
opaque Config.writeOk : Nat → Bool

/-- FREE VALUE: the answer of an `analogRead` at the `n`-th draw; `none` is a failure (R277, U2). -/
opaque Config.readAnswer : Nat → Option Volts

/-- FREE VALUE: is the tie of the `n`-th draw rounded up (R108)? -/
opaque Config.tieUp : Nat → Bool

/-- FREE VALUE: the datagram that arrives when none was listed as in flight (R48, U16). -/
opaque Config.datagram : Nat → Datagram

/-- The answers a check requested for an index outside the subject table may get. The spec states none; no error is
among them, since a check never ends with an error response (R280) and no cause of an error class names the case
(R271, R272). -/
inductive NoSubject where
  | absent
  | refused
  /-- a failed check, `outOfRange`, as of a subject whose pin is illegal (R230) -/
  | outOfRange
  deriving DecidableEq, Repr, Inhabited

/-- FREE VALUE: the answer to a check requested for a subject index the subject table does not hold. -/
opaque Config.noSubject : Nat → NoSubject

/-- FREE VALUE: who acts next when the agenda lists nothing (R16). -/
opaque Config.nextInput : Nat → Input

end Sys2Proof
end

