-- ==== Sys2Proof/Machine/State.lean ====
section
/-!
DEFINITION. The state of the block as plain data (spec 10_state.md rules R20 to R49), the responses and output
streams of its interfaces (rules R13, R15, R119), and its value after reset (rules R49, R300, R301).
-/

namespace Sys2Proof.Machine

/-- The reasons a step could stop the machine. There is none: "no error is fatal to the block" (R281), every
error class ends one operation and is returned (R279, R280). The type is empty, so no step faults; safe. -/
inductive Fault where
  deriving DecidableEq, Repr

/-- The reasons an instruction could be without a meaning. -/
inductive Refusal where
  /-- Raised by an arm of `exec` whose instruction has no meaning yet; safe. No arm raises it: every instruction
  has its meaning. -/
  | notModelled (mnemonic : String)
  deriving DecidableEq, Repr

/-! ## Responses -/

/-- The error classes (R270). -/
inductive ErrorClass where
  | formatError
  | rangeError
  | hardwareTimeout
  | verificationFailure
  | sequencingViolation
  | absent
  | facadeFailure
  deriving DecidableEq, Repr, Inhabited

/-- What an error records (R271, R272, R208, R120). -/
inductive ErrInfo where
  /-- the offending operand value (R271) -/
  | operand (n : Int)
  /-- the offending voltage (R271) -/
  | voltage (v : Volts)
  /-- the length of the refused buffer (R272 (a)) -/
  | length (n : Nat)
  /-- the opcode of the refused command word (R120) -/
  | opcode (op : Nat)
  /-- the index of the control line whose write failed (R208) -/
  | line (i : Nat)
  deriving DecidableEq, Repr, Inhabited

/-- An error: its class and what it records (R119). -/
structure Err where
  cls  : ErrorClass
  info : ErrInfo
  deriving DecidableEq, Repr, Inhabited

/-- The reason codes of the checks, the closed list (R267). -/
inductive Reason where
  | ok
  | mismatch
  | notNearZero
  | pullDownMismatch
  | badDirective
  | badValue
  | cardAbsent
  | outOfRange
  | verifyFailed
  | revertFailed
  | wrongLogicPinInput
  | shortsFound
  | facadeFailure
  deriving DecidableEq, Repr, Inhabited

/-- One entry of ShortCircuitTest's list: the outer pin, the inner pin and the voltage; a facade failure at the
outer pin records neither of the last two (R253, R254 (e)). -/
structure ShortEntry where
  outer   : Nat
  inner   : Option Nat
  voltage : Option Volts
  deriving DecidableEq, Repr, Inhabited

/-- The `measuredValue` of a check (R220, R241, R247, R253, R257). -/
inductive Measured where
  /-- no measurement was made -/
  | none
  | volts (v : Volts)
  /-- LogicTest: the bit read -/
  | bit (b : Bool)
  /-- RelayFuseTest: the two channels -/
  | both (va vb : Volts)
  /-- ShortCircuitTest: the failed entries -/
  | shorts (l : List ShortEntry)
  deriving DecidableEq, Repr, Inhabited

/-- What a check returns: `(measuredValue, pass, message)` (R220). -/
structure CheckResult where
  measured : Measured
  pass     : Bool
  reason   : Reason
  deriving DecidableEq, Repr, Inhabited

/-- The value of `ok(value)` (R119). -/
inductive Value where
  | bool (b : Bool)
  | dims (rows cols : Nat)
  | volts (v : Volts)
  | bytes (l : List Byte)
  | numbers (l : List Nat)
  | word (n : Nat)
  | pattern (p : Pattern)
  /-- `startAll`: for each card that has a channel, what its `start` returned (R188) -/
  | started (l : List (Nat × Bool))
  | check (r : CheckResult)
  /-- a check whose prerequisite does not hold (R262) -/
  | skipped
  deriving DecidableEq, Repr, Inhabited

/-- A response (R119). -/
inductive Response where
  | ok
  | okValue (v : Value)
  | absent
  | refused
  | error (e : Err)
  deriving DecidableEq, Repr, Inhabited

/-! ## Cards -/

/-- The SendFrame registers of a card (R20 to R25). `dout` bit `n-1` is `DO[n]`, `ttl` bit `n-1` is `TTL[n]`;
`rows` and `cols` can hold only 0..8 (R23, R24); `ao[n]` is the raw value `AO[n]` (R25). -/
structure SendRegs where
  dout : BitVec 32
  ttl  : BitVec 16
  rows : Fin 9
  cols : Fin 9
  ao   : Vector Raw 8
  deriving DecidableEq, Repr, Inhabited

/-- The run state of a channel (R32). -/
inductive RunState where
  | created
  | running
  | stopped
  | failed
  deriving DecidableEq, Repr, Inhabited

/-- A CardChannel (R20, R27, R32 to R34, R48). `startedAt` (the `t0` of R174) and `lastTick`
are what the cadence of R174 speaks of; `rxTimes` are the times of all the accepted frames, newest first, which a
verify step looks back on (R192). The three are the model's own (log entries 12 and 22). -/
structure Channel where
  id         : Nat
  enabled    : Bool
  txEndpoint : Nat
  rxEndpoint : Nat
  run        : RunState
  sf         : SendRegs
  rf         : Option RxBuffer
  lastRx     : Option Time
  rxTimes    : List Time
  lastTx     : Option Datagram
  txCount    : Nat
  txErrors   : Nat
  rxCount    : Nat
  rxDropped  : Nat
  startedAt  : Option Time
  lastTick   : Option Time
  deriving DecidableEq, Repr, Inhabited

/-! ## Facade pins -/

/-- The facade pin space `FP` (R36): the pins that hold a level, strictly rising, each with the level last
written. A pin that is not listed holds no value (R35 to R37). -/
abbrev Memory := List (FacadePin × Bool)

/-- The canonical form: pin numbers strictly rising. No entry can equal what an unlisted pin reads as, since
an unlisted pin reads as no value. -/
abbrev Memory.wf (m : Memory) : Prop := m.Pairwise (fun x y => x.1 < y.1)

/-! ## Subjects and the engine -/

/-- A tri-state result flag (R41). -/
inductive TriResult where
  | noResult
  | pass
  | fail
  deriving DecidableEq, Repr, Inhabited

/-- A TestSubject record (R40). -/
structure Subject where
  input          : SubjectInput
  powerMeasured  : Option Volts
  pullupMeasured : Option Volts
  powerResult    : TriResult
  pullupResult   : TriResult
  logicResult    : TriResult
  deriving DecidableEq, Repr, Inhabited

/-- The phases of the sequencer (R46). -/
inductive Phase where
  | idle
  | power
  | pullUp
  | logic
  | sweep
  | relayFuse
  deriving DecidableEq, Repr, Inhabited

/-- The sequencer position `seq.pos` (R46). -/
structure SeqPos where
  phase : Phase
  idx   : Nat
  step  : Nat
  deriving DecidableEq, Repr, Inhabited

/-- The transient values of the check in progress (R42; the local names of the pipelines of R231, R240, R247,
R253, R257), and where the worker is suspended (R13 `wait`, R192). -/
structure Work where
  /-- the check was started by `runSequence` (R260), not by a request of its own -/
  inSeq     : Bool
  /-- which part of the numbered step the worker takes next, from 0 (log entry 21) -/
  sub       : Nat
  /-- suspended in `wait` until `now` reaches this time -/
  wake      : Option Time
  /-- the directive in use: `c.spec` of R231, `d` of R240 -/
  spec      : Option Stimulus
  /-- the time of the setter step being verified (R222, R224) -/
  t0        : Time
  /-- when `waitFresh` gives up: `tstart + maxWait` (R192) -/
  deadline  : Time
  /-- `m`, the voltage measured (R231, R240) -/
  measured  : Option Volts
  /-- LogicTest's `m`, the bit read (R247) -/
  bitRead   : Option Bool
  pass      : Bool
  reason    : Reason
  /-- `ok` of R240, `r` of R231 -/
  gate      : Bool
  /-- `r1` of R240: the pull-up was restored -/
  restored  : Bool
  /-- LogicTest's second pin (R248) -/
  secondPin : Int
  /-- how many of LogicTest's two `setRelay(·, true)` were attempted (R247, G4) -/
  relays    : Nat
  /-- the sweep's expected voltage, inner pin and failed entries (R253) -/
  vexp      : Volts
  inner     : Nat
  shorts    : List ShortEntry
  /-- the pairs of RelayFuseTest and its two readings (R257) -/
  pairA     : Nat
  pairB     : Nat
  both      : Option (Volts × Volts)
  deriving DecidableEq, Repr, Inhabited

/-! ## Operations of the fleet in progress -/

/-- The two operations that go through every card (R188, R189). -/
inductive FleetOpKind where
  | startAll
  | stopAll
  deriving DecidableEq, Repr, Inhabited

/-- A STARTALL or STOPALL in progress: the card its caller takes next, and what `start` returned for the cards before
it, in ascending order. Between two cards any other agent may act (R16, R79; log entry 21). -/
structure FleetOp where
  kind    : FleetOpKind
  next    : Nat
  started : List (Nat × Bool)
  deriving DecidableEq, Repr, Inhabited

/-! ## Output streams -/

/-- Diagnostics (R13 `log`, R290). -/
inductive Diagnostic where
  /-- R171 -/
  | bindFailure (card : Nat)
  /-- R176 -/
  | sendFailure (card : Nat)
  /-- R179 -/
  | malformedLength (card len : Nat)
  /-- R262: a check was skipped, with a warning -/
  | skipped (phase : Phase) (subject : Nat)
  /-- R270, R272 (b), R236: a directive of the phase's check that does not match its grammar -/
  | unparsedDirective (phase : Phase) (subject : Nat)
  deriving DecidableEq, Repr, Inhabited

/-- A call of the hardware facade, with the time of the call (R13, R15, R287). -/
inductive FacadeCall where
  /-- `digitalWrite(pin, level)`; did it succeed? -/
  | dw (at_ : Time) (pin : FacadePin) (level done : Bool)
  /-- `analogRead(pin)`; `none` is a failure -/
  | ar (at_ : Time) (pin : FacadePin) (answer : Option Volts)
  /-- `close()` -/
  | close (at_ : Time)
  deriving DecidableEq, Repr, Inhabited

/-! ## The environment -/

/-- The environment, as inputs (R12, R15, R16, R47, R48). `agenda` says who acts next; the lists of answers are
the draws to come, oldest first; `draws` counts the draws made after a list has run out, each of which is a
constant without a body applied to it; `rxWire` and `txWire` are the datagrams in flight of each card, oldest
first. -/
structure Env where
  now     : Time
  agenda  : List Input
  draws   : Nat
  binds   : List Bool
  sends   : List Bool
  writes  : List Bool
  reads   : List (Option Volts)
  ties    : List Bool
  rxWire  : Vector (List Datagram) 7
  txWire  : Vector (List Datagram) 7
  deriving DecidableEq, Repr, Inhabited

/-- The state of the block (R20). `cfg` and `env` are no state of the block in the spec's sense (R20, R47): they
are its configuration, which no step writes, and its environment; they stand here so that every claim about
every state is a claim about every configuration and every environment. `fleetOps` are the STARTALL and STOPALL in
progress, oldest first (R16, R289). `responses`, `log` and `facade` are the output streams of the block's interfaces,
newest first (R13, R15). -/
structure State where
  cfg           : Cfg
  fleet         : Vector (Option Channel) 7
  pins          : Memory
  facadeClosed  : Bool
  subj          : List Subject
  stopRequested : Bool
  busy          : Bool
  pos           : SeqPos
  work          : Work
  fleetOps      : List FleetOp
  env           : Env
  responses     : List Response
  log           : List Diagnostic
  facade        : List FacadeCall
  deriving DecidableEq, Repr, Inhabited

/-- SendFrame registers after reset: all zero (R21 to R25, R49). -/
def SendRegs.reset : SendRegs :=
  { dout := 0, ttl := 0, rows := 0, cols := 0, ao := Vector.replicate 8 0 }

/-- A channel after construction (R32 to R34, R48, R49). -/
def Channel.fresh (id : Nat) (c : CardCfg) : Channel :=
  { id := id, enabled := c.enabled, txEndpoint := c.txEndpoint, rxEndpoint := c.rxEndpoint,
    run := .created, sf := .reset, rf := none, lastRx := none, rxTimes := [], lastTx := none,
    txCount := 0, txErrors := 0, rxCount := 0, rxDropped := 0, startedAt := none, lastTick := none }

/-- Construction of one entry of the fleet map: a channel exactly when the card is present and enabled
(R38, R185). -/
def buildChannel (id : Nat) : Option CardCfg → Option Channel
  | some c => if c.enabled then some (.fresh id c) else none
  | none => none

/-- Construction of the fleet (R185): entry `c - 1` is `chan(c)`. -/
def buildFleet (cfg : Cfg) : Vector (Option Channel) 7 :=
  Vector.ofFn fun i => buildChannel (i.val + 1) cfg.card[i]

/-- A TestSubject right after loading (R40, R49). -/
def Subject.fresh (i : SubjectInput) : Subject :=
  { input := i, powerMeasured := none, pullupMeasured := none,
    powerResult := .noResult, pullupResult := .noResult, logicResult := .noResult }

/-- The sequencer's idle position (R46). -/
def SeqPos.idle : SeqPos := { phase := .idle, idx := 0, step := 0 }

/-- No check in progress. -/
def Work.idle : Work :=
  { inSeq := false, sub := 0, wake := none, spec := none, t0 := 0, deadline := 0, measured := none,
    bitRead := none, pass := false, reason := .ok, gate := false, restored := false, secondPin := 0,
    relays := 0, vexp := 0, inner := 0, shorts := [], pairA := 0, pairB := 0, both := none }

/-- The environment of which nothing is listed: every draw, and who acts, is free. -/
def Env.reset (start : Time) : Env :=
  { now := start, agenda := [], draws := 0, binds := [], sends := [], writes := [], reads := [],
    ties := [], rxWire := Vector.replicate 7 [], txWire := Vector.replicate 7 [] }

/-- The block built from a configuration and loaded with a subject table (R300, R301, R49). -/
def State.construct (cfg : Cfg) (subjects : List SubjectInput) (start : Time) : State :=
  { cfg := cfg, fleet := buildFleet cfg, pins := [], facadeClosed := false,
    subj := subjects.map .fresh, stopRequested := false, busy := false, pos := .idle,
    work := .idle, fleetOps := [], env := .reset start, responses := [], log := [], facade := [] }

/-- The block after reset: construction from the platform's configuration, then the loading of the subject
table (R300). -/
def State.reset : State :=
  State.construct Config.platform.cfg Config.subjects Config.startTime

end Sys2Proof.Machine
end

