-- ==== Sys2Proof/Machine/Operands.lean ====
section
/-!
DEFINITION. Operand assembly: bit and byte positions of the two frames, the voltage conversion and its tie rule,
the frame decoder, and the directive grammars (spec 20_memory.md section 2 to 4, 30_encoding.md rules R101 to
R114).
-/

namespace Sys2Proof.Machine

/-! ## Bits and bytes -/

/-- Bit `k` of `x` set to `b`, every other bit unchanged: the `withBit` of R103 for a register. -/
def setBit {w : Nat} (x : BitVec w) (k : Nat) (b : Bool) : BitVec w :=
  (x &&& ~~~(BitVec.twoPow w k)) ||| (if b then BitVec.twoPow w k else 0)

/-- Byte `k` of `x`, byte 0 the least significant (R70). -/
def byteAt {w : Nat} (x : BitVec w) (k : Nat) : Byte := x.extractLsb' (8 * k) 8

/-- The byte of a received buffer at an offset (R10). -/
def rxByte (buf : RxBuffer) (off : Nat) : Byte := buf[off]?.getD 0

/-- `MemRead(buf, off, n)`: `n` bytes as an unsigned little-endian number (R13, R70). -/
def memRead (buf : RxBuffer) (off : Nat) : Nat → Nat
  | 0 => 0
  | n + 1 => memRead buf off n + (rxByte buf (off + n)).toNat * 256 ^ n

/-- `byteOff(o, n)` (R103). -/
def byteOff (o n : Nat) : Nat := o + (n - 1) / 8

/-- `bitPos(n)` (R103). -/
def bitPos (n : Nat) : Nat := (n - 1) % 8

/-- `getBit(buf, o, n)` (R103). -/
def getBit (buf : RxBuffer) (o n : Nat) : Bool := (rxByte buf (byteOff o n)).getLsbD (bitPos n)

/-- `activeList(buf, o, count)`: the numbers 1..count whose bit is set, ascending (R104). -/
def activeList (buf : RxBuffer) (o count : Nat) : List Nat :=
  ((List.range count).map (· + 1)).filter (getBit buf o)

/-- `sext_16(MemRead(buf, off, 2))` (R13, R68). -/
def memReadSigned (buf : RxBuffer) (off : Nat) : Int := (BitVec.ofNat 16 (memRead buf off 2)).toInt

/-- A buffer of exactly 64 bytes, if the payload is one (R73): the length discipline of a received frame (R161). -/
def toRxBuffer (d : Datagram) : Option RxBuffer :=
  if h : d.length = 64 then some ⟨d.toArray, by simpa using h⟩ else none

/-! ## The send image -/

/-- The 32-byte send image, byte by byte (R61 to R65, R101, R150): the length discipline of a sent frame, and each field
in bytes of its own (R161). -/
def sendImage (header0 header1 : Byte) (r : SendRegs) : List Byte :=
  [header0, header1,
   byteAt r.dout 0, byteAt r.dout 1, byteAt r.dout 2, byteAt r.dout 3,
   byteAt r.ttl 0, byteAt r.ttl 1,
   BitVec.ofNat 8 r.rows, BitVec.ofNat 8 r.cols,
   0, 0,
   byteAt r.ao[0] 0, byteAt r.ao[0] 1, byteAt r.ao[1] 0, byteAt r.ao[1] 1,
   byteAt r.ao[2] 0, byteAt r.ao[2] 1, byteAt r.ao[3] 0, byteAt r.ao[3] 1,
   byteAt r.ao[4] 0, byteAt r.ao[4] 1, byteAt r.ao[5] 0, byteAt r.ao[5] 1,
   byteAt r.ao[6] 0, byteAt r.ao[6] 1, byteAt r.ao[7] 0, byteAt r.ao[7] 1,
   0, 0, 0, 0]

/-! ## The received frame as a whole -/

/-- The record `decodeFrame(buf)` of R158. -/
structure DecodedFrame where
  di        : List Bool
  ttlStatus : Nat
  mrow      : List Byte
  ai        : List Int
  tail      : List Byte
  deriving DecidableEq, Repr

/-- The two header bytes of a received frame, which nothing interprets (R69, R158). -/
def rxHeader (buf : RxBuffer) : List Byte := (List.range 2).map (rxByte buf)

/-- `decodeFrame(buf)`: every field of the frame (R66 to R69, R102, R158). -/
def decodeFrame (buf : RxBuffer) : DecodedFrame :=
  { di := (List.range 64).map fun k => getBit buf 2 (k + 1)
    ttlStatus := memRead buf 10 2
    mrow := (List.range 4).map fun k => rxByte buf (12 + k)
    ai := (List.range 16).map fun k => memReadSigned buf (16 + 2 * k)
    tail := (List.range 16).map fun k => rxByte buf (48 + k) }

/-- The fields of a frame that a getter reads (R153 to R157). -/
def inputFields (buf : RxBuffer) : InputFields :=
  { di := (decodeFrame buf).di, ttlStatus := (decodeFrame buf).ttlStatus, ai := (decodeFrame buf).ai }

/-! ## Voltages -/

/-- `v * 65536 / 27`: a voltage in raw units (R106, R107). -/
def rawUnits (v : Volts) : Rat := v * 65536 / 27

/-- Is `x` exactly halfway between two integers (R108)? -/
def isTie (x : Rat) : Bool := decide (x - x.floor = 1 / 2)

/-- `round(x)`: the nearest integer; a tie goes as `Cfg.roundTie` says, `up` being the environment's choice
under `draw` (R108). -/
def roundRat (tie : RoundTie) (up : Bool) (x : Rat) : Int :=
  if x - x.floor < 1 / 2 then x.floor
  else if 1 / 2 < x - x.floor then x.floor + 1
  else
    match tie with
    | .halfEven => if x.floor % 2 = 0 then x.floor else x.floor + 1
    | .halfAway => if 0 < x then x.floor + 1 else x.floor
    | .draw => if up then x.floor + 1 else x.floor

/-- `clamp(x, lo, hi)` (R11). -/
def clampInt (x lo hi : Int) : Int := max lo (min hi x)

/-- `encodeVolt(v)` as an integer -32768..32767 (R107); with `decodeVolt`, the quantization bound (R148, R161). -/
def encodeVolt (tie : RoundTie) (up : Bool) (v : Volts) : Int :=
  clampInt (roundRat tie up (rawUnits v)) (-32768) 32767

/-- `decodeVolt(r)` (R109, R161). -/
def decodeVolt (r : Int) : Volts := (r : Rat) * 27 / 65536

/-! ## Directive strings -/

/-- A decimal digit (R111). -/
def isDigit (c : Char) : Bool := decide (48 ≤ c.toNat ∧ c.toNat ≤ 57)

/-- The digits a text begins with, and the rest. -/
def spanDigits : Text → Text × Text
  | [] => ([], [])
  | c :: r => if isDigit c then (c :: (spanDigits r).1, (spanDigits r).2) else ([], c :: r)

/-- The base 10 value of a string of digits (R111). -/
def digitsValue (ds : Text) : Nat := ds.foldl (fun n c => 10 * n + (c.toNat - 48)) 0

/-- `<int>`: one or more digits (R111). -/
def parseInt (t : Text) : Option (Nat × Text) :=
  match spanDigits t with
  | ([], _) => none
  | (d :: ds, r) => some (digitsValue (d :: ds), r)

/-- `<sint>`: an `<int>` after at most one `-` (R111). -/
def parseSint (t : Text) : Option (Int × Text) :=
  match t with
  | '-' :: r => (parseInt r).map fun p => (-(p.1 : Int), p.2)
  | r => (parseInt r).map fun p => ((p.1 : Int), p.2)

/-- Exactly these characters come next. -/
def expectText : Text → Text → Option Text
  | [], r => some r
  | c :: cs, d :: r => if c = d then expectText cs r else none
  | _ :: _, [] => none

/-- `kind ::= "AO" | "DO"` (R112). -/
def parseKind (t : Text) : Option (StimKind × Text) :=
  match expectText ['A', 'O'] t with
  | some r => some (.AO, r)
  | none => (expectText ['D', 'O'] t).map fun r => (.DO, r)

/-- `parseStimulus(text)`; `none` is `noMatch` (R112). -/
def parseStimulus (t : Text) : Option Stimulus := do
  let r ← expectText ['C'] t
  let (card, r) ← parseInt r
  let r ← expectText ['_'] r
  let (kind, r) ← parseKind r
  let (number, r) ← parseInt r
  let r ← expectText ['_'] r
  let (value, r) ← parseSint r
  if r = [] then some { card := card, kind := kind, number := number, value := value } else none

/-- `parseLogicExpected(text)`; `none` is `noMatch` (R113). -/
def parseLogicExpected (t : Text) : Option LogicExpectation := do
  let r ← expectText ['C'] t
  let (card, r) ← parseInt r
  let r ← expectText ['_', 'D', 'I'] r
  let (number, r) ← parseInt r
  let r ← expectText ['_'] r
  if r = ['0'] then some { card := card, number := number, bit := false }
  else if r = ['1'] then some { card := card, number := number, bit := true }
  else none

/-- The special strings of `powerInput`: the empty string and `none` (R114). -/
def isNoStimulusText (t : Text) : Bool := decide (t = [] ∨ t = ['n', 'o', 'n', 'e'])

/-- `classifyPowerInput(text)`: `none` is `NoStimulus` (R221, R236). -/
def classifyPowerInput (t : Text) : Option Stimulus :=
  if isNoStimulusText t then none else parseStimulus t

/-- The special string of `pullupInput` (R114). -/
def isGText (t : Text) : Bool := decide (t = ['G'])

/-- `neutral(kind)`: 0 V, false (R225). -/
def neutral : StimKind → Int
  | .AO => 0
  | .DO => 0

end Sys2Proof.Machine
end

