-- ==== Sys2Proof/Machine/Flags.lean ====
section
/-!
DEFINITION. Flags and comparisons: liveness, the comparison predicates of the checks, eligibility, the tri-state
result, the codes of the error classes (spec 41_channel_fleet.md rule R180; 43_test_engine.md rules R228, R261,
R267; 60_exceptions.md rule R270; 41_channel_fleet.md rule R174).
-/

namespace Sys2Proof.Machine

/-- `abs(x)` (R11). -/
def absRat (x : Rat) : Rat := if x < 0 then -x else x

/-- `within(V, E)`: `abs(V - E) <= Cfg.tol` (R228). -/
def within (cfg : Cfg) (v e : Volts) : Bool := decide (absRat (v - e) ≤ cfg.tol)

/-- `nearZero(V)`: `abs(V) <= Cfg.tol` (R228). -/
def nearZero (cfg : Cfg) (v : Volts) : Bool := decide (absRat v ≤ cfg.tol)

/-- `low(V)`: `V <= Cfg.lowThreshold`, the signed value (R228, R261). -/
def low (cfg : Cfg) (v : Volts) : Bool := decide (v ≤ cfg.lowThreshold)

/-- `communicationActive`, derived and never stored (R33, R180). -/
def communicationActive (cfg : Cfg) (now : Time) (ch : Channel) : Bool :=
  match ch.lastRx with
  | none => false
  | some t => decide (now - t ≤ cfg.commTimeout)

/-- The Power result of a subject passed, with a measured value that meets `p`. -/
def powerPassed (p : Volts → Bool) (sub : Subject) : Bool :=
  decide (sub.powerResult = .pass) &&
    match sub.powerMeasured with
    | none => false
    | some v => p v

/-- `eligiblePullUp(s)` (R261). -/
def eligiblePullUp (cfg : Cfg) (sub : Subject) : Bool := powerPassed (nearZero cfg) sub

/-- `eligibleLogic(s)` (R261). -/
def eligibleLogic (cfg : Cfg) (sub : Subject) : Bool := powerPassed (low cfg) sub

/-- The result flag a check that ran writes (R41). -/
def resultOf (pass : Bool) : TriResult := if pass then .pass else .fail

/-- The code of an error class (R270). -/
def ErrorClass.code : ErrorClass → Nat
  | .formatError => 1
  | .rangeError => 2
  | .hardwareTimeout => 3
  | .verificationFailure => 4
  | .sequencingViolation => 5
  | .absent => 6
  | .facadeFailure => 7

/-- The one message text the source fixes (R220). -/
def Reason.text : Reason → Option String
  | .wrongLogicPinInput => some "wrong logic pin input"
  | _ => none

/-- A check's `measuredValue` from the voltage it holds (R220). -/
def Measured.ofVolts : Option Volts → Measured
  | .none => .none
  | .some v => .volts v

/-- LogicTest's `measuredValue` from the bit it holds (R247). -/
def Measured.ofBit : Option Bool → Measured
  | .none => .none
  | .some b => .bit b

/-- RelayFuseTest's `measuredValue` from its two readings (R257). -/
def Measured.ofBoth : Option (Volts × Volts) → Measured
  | .none => .none
  | .some (va, vb) => .both va vb

/-- The scheduled instant a time belongs to: the `k` of the latest `t0 + k * Cfg.sendPeriod` not after it
(R174). -/
def tickSlot (cfg : Cfg) (t0 now : Time) : Int := ((now - t0) / cfg.sendPeriod).floor

/-- May the send loop take a tick now? The scheduled instant it belongs to has no tick yet, and the tick before is
at least a period ago, so that an interval of length `T` holds at most `floor(T / Cfg.sendPeriod) + 1` ticks
(R174; log entry 22). -/
def tickDue (cfg : Cfg) (now : Time) (ch : Channel) : Bool :=
  match ch.lastTick with
  | none => true
  | some t =>
    decide (t + cfg.sendPeriod ≤ now) &&
      match ch.startedAt with
      | none => true
      | some t0 => decide (tickSlot cfg t0 t < tickSlot cfg t0 now)

end Sys2Proof.Machine
end

