-- ==== Sys2Proof/Machine/Ops.lean ====
section
/-!
DEFINITION. The named operations over the state: one update per field, the facade pin memory, the draws, the
responses and the ending of an operation by an error (60_exceptions.md rules R270, R278 to R281), the fleet
dispatch (41_channel_fleet.md rule R186), the facade calls (00_scope.md rule R13) and the control lines
(42_router.md).
-/

namespace Sys2Proof.Machine

/-! ## Updates -/

/-- Write the facade pin memory. -/
def State.setPins (s : State) (m : Memory) : State := { s with pins := m }

/-- Write the fleet map. -/
def State.setFleet (s : State) (f : Vector (Option Channel) 7) : State := { s with fleet := f }

/-- Mark the facade closed or open. -/
def State.setClosed (s : State) (b : Bool) : State := { s with facadeClosed := b }

/-- Write the subject table. -/
def State.setSubj (s : State) (l : List Subject) : State := { s with subj := l }

/-- Write `stopRequested`. -/
def State.setStop (s : State) (b : Bool) : State := { s with stopRequested := b }

/-- Write `busy`. -/
def State.setBusy (s : State) (b : Bool) : State := { s with busy := b }

/-- Write `seq.pos`. -/
def State.setPos (s : State) (p : SeqPos) : State := { s with pos := p }

/-- Write the transient values of the check in progress. -/
def State.setWork (s : State) (w : Work) : State := { s with work := w }

/-- Write the operations of the fleet in progress. -/
def State.setFleetOps (s : State) (l : List FleetOp) : State := { s with fleetOps := l }

/-- Write the environment. -/
def State.setEnv (s : State) (e : Env) : State := { s with env := e }

/-- Give a response on the response interface (R119). -/
def State.respond (s : State) (r : Response) : State := { s with responses := r :: s.responses }

/-- `log(msg)` (R13). -/
def State.emit (s : State) (d : Diagnostic) : State := { s with log := d :: s.log }

/-- A call on the facade interface (R15). -/
def State.call (s : State) (c : FacadeCall) : State := { s with facade := c :: s.facade }

/-! ## Facade pin memory (R36) -/

/-- The level of a pin, if it holds one. -/
def Memory.read (p : FacadePin) : Memory → Option Bool
  | [] => none
  | (q, l) :: m => if p = q then some l else Memory.read p m

/-- The pin holds this level from now on. -/
def Memory.write (p : FacadePin) (l : Bool) : Memory → Memory
  | [] => [(p, l)]
  | (q, k) :: m =>
    if p < q then (p, l) :: (q, k) :: m
    else if p = q then (p, l) :: m
    else (q, k) :: Memory.write p l m

/-- The pin holds no value from now on (R208, R277). -/
def Memory.erase (p : FacadePin) (m : Memory) : Memory := m.filter fun x => decide (x.1 ≠ p)

/-! ## Views of the facade pins -/

/-- `FP[q]` (R36). -/
def State.fp (s : State) (q : FacadePin) : Option Bool := Memory.read q s.pins

/-- `L[i]`, which is `FP[Cfg.linePin(i)]` (R35, R36). -/
def State.line (s : State) (i : Fin 16) : Option Bool := s.fp s.cfg.linePin[i]

/-- The wiring of pair `k` (R9). -/
def pairWiring (cfg : Cfg) (k : Nat) : PairWiring := (cfg.pairs.lookup k).getD (Config.pairWiring k)

/-- `Cfg.measPin(k)` (R9). -/
def measPin (cfg : Cfg) (k : Nat) : FacadePin := (pairWiring cfg k).measPin

/-- `Cfg.pullupPin(k)` (R9). -/
def pullupPin (cfg : Cfg) (k : Nat) : FacadePin := (pairWiring cfg k).pullupPin

/-- `Cfg.relayPins(k)`, in the order they are written (R9, R227). -/
def relayPins (cfg : Cfg) (k : Nat) : List FacadePin := [(pairWiring cfg k).relay1, (pairWiring cfg k).relay2]

/-- `Cfg.sharedPullupPin(ka, kb)` (R9). -/
def sharedPullupPin (cfg : Cfg) (ka kb : Nat) : FacadePin :=
  (cfg.sharedPullup.lookup (ka, kb)).getD (Config.sharedPullupPin ka kb)

/-- `PU[k]` (R37). -/
def State.pullup (s : State) (k : Nat) : Option Bool := s.fp (pullupPin s.cfg k)

/-- `RL[k]`: the levels of the pair's two relay pins (R37). -/
def State.relay (s : State) (k : Nat) : List (Option Bool) := (relayPins s.cfg k).map s.fp

/-- `SPU(ka, kb)` (R37). -/
def State.sharedPullup (s : State) (ka kb : Nat) : Option Bool := s.fp (sharedPullupPin s.cfg ka kb)

/-- `Cfg.pairOf(p)`, a function on the pins 1..50; no rule applies it to another number (R9). -/
def pairOfPin (cfg : Cfg) (pin : Int) : Nat :=
  if 1 ≤ pin ∧ pin ≤ 50 then cfg.pairOf[(pin - 1).toNat]?.getD 0 else 0

/-- What `Cfg.degrade` computes (R9, R254 (a)). -/
def degradeVolts (cfg : Cfg) (v : Volts) : Volts :=
  match cfg.degrade with
  | .identity => v
  | .correction id => Config.degrade id v

/-! ## Draws (R47, R184, R277) -/

/-- Does a bind succeed? The next listed answer, or a free one (R171). -/
def Env.drawBind (e : Env) : Bool × Env :=
  match e.binds with
  | b :: l => (b, { e with binds := l })
  | [] => (Config.bindOk e.draws, { e with draws := e.draws + 1 })

/-- Does a transmit succeed (R176)? -/
def Env.drawSend (e : Env) : Bool × Env :=
  match e.sends with
  | b :: l => (b, { e with sends := l })
  | [] => (Config.sendOk e.draws, { e with draws := e.draws + 1 })

/-- Does a `digitalWrite` succeed (R277)? -/
def Env.drawWrite (e : Env) : Bool × Env :=
  match e.writes with
  | b :: l => (b, { e with writes := l })
  | [] => (Config.writeOk e.draws, { e with draws := e.draws + 1 })

/-- What does an `analogRead` answer; `none` is a failure (R277)? -/
def Env.drawRead (e : Env) : Option Volts × Env :=
  match e.reads with
  | v :: l => (v, { e with reads := l })
  | [] => (Config.readAnswer e.draws, { e with draws := e.draws + 1 })

/-- Is a tie rounded up (R108)? -/
def Env.drawTie (e : Env) : Bool × Env :=
  match e.ties with
  | b :: l => (b, { e with ties := l })
  | [] => (Config.tieUp e.draws, { e with draws := e.draws + 1 })

/-- Where the wires of card `c` stand in the two vectors, for c in 1..7. -/
def cardIndex (c : Int) : Nat := (c - 1).toNat

/-- The datagram that arrives on wire-RX of a card: the oldest one in flight, or a free one (R48, U16). -/
def Env.takeDatagram (c : Int) (e : Env) : Datagram × Env :=
  match e.rxWire[cardIndex c]?.getD [] with
  | d :: l => (d, { e with rxWire := e.rxWire.setIfInBounds (cardIndex c) l })
  | [] => (Config.datagram e.draws, { e with draws := e.draws + 1 })

/-- Put a datagram on wire-TX of a card (R176). -/
def Env.transmit (c : Int) (f : Datagram) (e : Env) : Env :=
  { e with txWire := e.txWire.setIfInBounds (cardIndex c) (e.txWire[cardIndex c]?.getD [] ++ [f]) }

/-! ## Errors -/

/-- RangeError, recording the offending operand (R271). -/
def rangeError (n : Int) : Err := { cls := .rangeError, info := .operand n }

/-- RangeError of a voltage (R271). -/
def voltageError (v : Volts) : Err := { cls := .rangeError, info := .voltage v }

/-- FormatError of a payload, recording its length (R272 (a)). -/
def lengthError (n : Nat) : Err := { cls := .formatError, info := .length n }

/-- FormatError of a command word, recording its opcode (R120). -/
def opcodeError (op : Nat) : Err := { cls := .formatError, info := .opcode op }

/-- FacadeFailure of a router operation, recording the control line (R208). -/
def lineError (i : Nat) : Err := { cls := .facadeFailure, info := .line i }

/-- An operation ends with an error class: the response is `error(class, info)` and nothing is saved, no mode
changes and no other state element is written (R13 `raise`, R279). There is no handler and no return: the block
accepts the next operation in the state this leaves (R281). -/
def State.raise (s : State) (e : Err) : State := s.respond (.error e)

/-- Give the response an operation computed, in the state it left. -/
def answer (p : Response × State) : State := p.2.respond p.1

/-- The response of a router operation: `ok`, or the error it ended with (R204, R208). -/
def outcomeResponse : Option Err → Response
  | none => .ok
  | some e => .error e

/-! ## Fleet (R186) -/

/-- `chan(c)`: the channel of card `c`; none for an id outside 1..7 (R38, R186). -/
def State.chan (s : State) (c : Int) : Option Channel :=
  if 1 ≤ c ∧ c ≤ 7 then s.fleet[cardIndex c]?.getD none else none

/-- Write the channel of card `c`. -/
def State.setChan (s : State) (c : Int) (ch : Channel) : State :=
  s.setFleet (s.fleet.setIfInBounds (cardIndex c) (some ch))

/-- A setter of the frame registers through the fleet: `absent` for an unknown card, before any other check;
else the codec's own checks, then the write (R182, R186, R278, R279). -/
def fleetSet (c : Int) (f : SendRegs → Except Err SendRegs) (s : State) : Response × State :=
  match s.chan c with
  | none => (.absent, s)
  | some ch =>
    match f ch.sf with
    | .error e => (.error e, s)
    | .ok r => (.ok, s.setChan c { ch with sf := r })

/-- A getter through the fleet: it writes nothing (R76, R186). -/
def fleetGet (c : Int) (f : Channel → Response) (s : State) : Response :=
  match s.chan c with
  | none => .absent
  | some ch => f ch

/-! ## Facade calls (R13, R36, R277) -/

/-- `DW(pin, level)`: did it succeed, and the state after. A failed write leaves the pin without a value; after
`close()` every write fails (R266, R277). -/
def digitalWrite (pin : FacadePin) (level : Bool) (s : State) : Bool × State :=
  let p := if s.facadeClosed then (false, s.env) else s.env.drawWrite
  let m := if p.1 then Memory.write pin level s.pins else Memory.erase pin s.pins
  (p.1, ((s.setEnv p.2).setPins m).call (.dw s.env.now pin level p.1))

/-- `AR(pin)`: the answer, none for a failure, and the state after. After `close()` every read fails
(R266, R277). -/
def analogRead (pin : FacadePin) (s : State) : Option Volts × State :=
  let p := if s.facadeClosed then (none, s.env) else s.env.drawRead
  (p.1, (s.setEnv p.2).call (.ar s.env.now pin p.1))

/-- Write pins one after another until a write fails; were all written (R226, R227)? -/
def drivePins (level : Bool) : List FacadePin → State → Bool × State
  | [], s => (true, s)
  | p :: ps, s =>
    let r := digitalWrite p level s
    if r.1 then drivePins level ps r.2 else (false, r.2)

/-- Write every pin LOW, each one regardless of the failure of another: the writes of a cleanup (R230, R281). -/
def restorePins : List FacadePin → State → State
  | [], s => s
  | p :: ps, s => restorePins ps (digitalWrite p false s).2

/-! ## Control lines (R204 to R208) -/

/-- The control lines a pattern names, ascending (R78, R204). -/
def patternLines (p : Pattern) : List (Fin 16) := (List.finRange 16).filter fun i => p.getLsbD i.val

/-- Drive these lines to a level, in order; the first failure ends it with `FacadeFailure(i)` (R208). -/
def driveLines (level : Bool) : List (Fin 16) → State → Option Err × State
  | [], s => (none, s)
  | i :: is, s =>
    let r := digitalWrite s.cfg.linePin[i] level s
    if r.1 then driveLines level is r.2 else (some (lineError i.val), r.2)

/-- `Cfg.tableA(pin)` or `Cfg.tableB(pin)` (R200). -/
def tablePattern (cfg : Cfg) (sch : Scheme) (k : Fin 50) : Pattern :=
  match sch with
  | .A => cfg.tableA[k]
  | .B => cfg.tableB[k]

/-- `lookup(pin, scheme)` (R201). -/
def lookupPattern (cfg : Cfg) (pin : Int) (sch : Scheme) : Except Err Pattern :=
  if h : 1 ≤ pin ∧ pin ≤ 50 then .ok (tablePattern cfg sch ⟨(pin - 1).toNat, by omega⟩)
  else .error (rangeError pin)

/-- `route(pin, scheme)`: assert the HIGH bits only (R204). -/
def routePin (pin : Int) (sch : Scheme) (s : State) : Option Err × State :=
  match lookupPattern s.cfg pin sch with
  | .error e => (some e, s)
  | .ok p => driveLines true (patternLines p) s

/-- `clearAll()`: all 16 lines LOW (R206). -/
def clearAllLines (s : State) : Option Err × State := driveLines false (List.finRange 16) s

/-- `clearBits(pattern)`: the lines set in the pattern LOW (R207). -/
def clearBitLines (p : Pattern) (s : State) : Option Err × State := driveLines false (patternLines p) s

/-- `routeClean(pin, scheme)`: `clearAll(); route(pin, scheme)` (R122 (c)). -/
def routeClean (pin : Int) (sch : Scheme) (s : State) : Option Err × State :=
  let r := clearAllLines s
  match r.1 with
  | some e => (some e, r.2)
  | none => routePin pin sch r.2

/-- The `clearAll()` of a cleanup: every line is attempted (R229, R230). -/
def restoreLines (s : State) : State := restorePins s.cfg.linePin.toList s

end Sys2Proof.Machine
end

