-- ==== Sys2Proof/Machine/Codec.lean ====
section
/-!
DEFINITION. The BinaryFrameCodec family: SDO, GDO, STTL, GTTL, SMD, GMD, SAO, GAO, ENC, GDI, GDIA, GAI, GTS, PARSE
and the pseudo-operation `setDigitalOutputs` (spec 40_codec.md). Every operation is dispatched by card id
(41_channel_fleet.md rules R182, R186).
-/

namespace Sys2Proof.Machine

/-! ## The setters and getters of the frame registers -/

/-- `DO[n]` (R21). -/
def SendRegs.digital (r : SendRegs) (n : Int) : Bool := r.dout.getLsbD (n - 1).toNat

/-- `TTL[n]` (R22). -/
def SendRegs.ttlBit (r : SendRegs) (n : Int) : Bool := r.ttl.getLsbD (n - 1).toNat

/-- `AO[n]`, the raw value as a signed integer (R25). -/
def SendRegs.analog (r : SendRegs) (n : Int) : Int := (r.ao[n.toNat]?.getD 0).toInt

/-- The register write of SDO (R131): one bit of `DO` and no other field, the field independence of R132 and R161. -/
def SendRegs.setDigital (n : Int) (state : Bool) (r : SendRegs) : Except Err SendRegs :=
  if n < 1 ∨ 32 < n then .error (rangeError n)
  else .ok { r with dout := setBit r.dout (n - 1).toNat state }

/-- The register write of STTL (R137): one bit of `TTL` and no other field (R138, R161). -/
def SendRegs.setTtl (n : Int) (state : Bool) (r : SendRegs) : Except Err SendRegs :=
  if n < 1 ∨ 16 < n then .error (rangeError n)
  else .ok { r with ttl := setBit r.ttl (n - 1).toNat state }

/-- The register write of SMD: rows are checked before columns, and both are written together (R141, R160). -/
def SendRegs.setDims (rows cols : Int) (r : SendRegs) : Except Err SendRegs :=
  if rows < 0 ∨ 8 < rows then .error (rangeError rows)
  else if cols < 0 ∨ 8 < cols then .error (rangeError cols)
  else .ok { r with rows := Fin.ofNat 9 rows.toNat, cols := Fin.ofNat 9 cols.toNat }

/-- Why `setAnalogOutput(n, v)` is refused: the index before the voltage (R145, R160). -/
def analogRefusal (n : Int) (v : Volts) : Option Err :=
  if n < 0 ∨ 7 < n then some (rangeError n)
  else if v < -27 / 2 ∨ 27 / 2 < v then some (voltageError v)
  else none

/-- The register write of SAO, the tie going `up` if it is the environment's to choose (R145, R107): one analog register
and no other field (R148, R161). -/
def SendRegs.setAnalog (tie : RoundTie) (up : Bool) (n : Int) (v : Volts) (r : SendRegs) : Except Err SendRegs :=
  match analogRefusal n v with
  | some e => .error e
  | none => .ok { r with ao := r.ao.setIfInBounds n.toNat (BitVec.ofInt 16 (encodeVolt tie up v)) }

/-- The checks and writes of `setDigitalOutputs`: the whole list is checked first (R135; Scenario A of R161). -/
def SendRegs.setDigitals (l : List Int) (r : SendRegs) : Except Err SendRegs :=
  match l.find? fun n => decide (n < 1 ∨ 32 < n) with
  | some n => .error (rangeError n)
  | none => .ok { r with dout := l.foldl (fun d n => setBit d (n - 1).toNat true) r.dout }

/-- `setAnalogOutput(cardId, n, v)` through the fleet, for any rational voltage. The environment chooses only
where the conversion is reached and meets a tie (R108, R145, R186). -/
def fleetSetAnalog (c n : Int) (v : Volts) (s : State) : Response × State :=
  if s.cfg.roundTie = .draw ∧ isTie (rawUnits v) = true ∧ (s.chan c).isSome ∧ analogRefusal n v = none then
    let p := s.env.drawTie
    fleetSet c (SendRegs.setAnalog s.cfg.roundTie p.1 n v) (s.setEnv p.2)
  else fleetSet c (SendRegs.setAnalog s.cfg.roundTie false n v) s

/-- The pseudo-operation `setDigitalOutputs(cardId, list)` (R122 (a), R135, R182). It has no opcode. -/
def setDigitalOutputs (c : Int) (l : List Int) (s : State) : State :=
  answer (fleetSet c (SendRegs.setDigitals l) s)

/-- The operations `setDigitalOutputs` expands to once its list is checked (R122 (a)). -/
def expandDigitalOutputs (card : Nat) (l : List Nat) : List Instr := l.map fun n => .sdo card n true

/-! ## The getters' answers -/

/-- `getDigitalOutput(n)` (R133). -/
def digitalOutput (n : Int) (ch : Channel) : Response :=
  if n < 1 ∨ 32 < n then .error (rangeError n) else .okValue (.bool (ch.sf.digital n))

/-- `getTTLOutput(n)` (R139). -/
def ttlOutput (n : Int) (ch : Channel) : Response :=
  if n < 1 ∨ 16 < n then .error (rangeError n) else .okValue (.bool (ch.sf.ttlBit n))

/-- `getMatrixDimensions()` (R143). -/
def matrixDimensions (ch : Channel) : Response := .okValue (.dims ch.sf.rows ch.sf.cols)

/-- `getAnalogOutput(n)`: the quantized voltage (R147; Scenario B of R161). -/
def analogOutput (n : Int) (ch : Channel) : Response :=
  if n < 0 ∨ 7 < n then .error (rangeError n) else .okValue (.volts (decodeVolt (ch.sf.analog n)))

/-- `encode()` (R150). -/
def imageOf (cfg : Cfg) (ch : Channel) : List Byte := sendImage cfg.header0 cfg.header1 ch.sf

/-- An input getter without an index: `absent` before the first frame (R159). -/
def ofFrame (f : RxBuffer → Value) (ch : Channel) : Response :=
  match ch.rf with
  | none => .absent
  | some buf => .okValue (f buf)

/-- `getDigitalInput(n)`: the index is checked before the frame's presence (R153, R159). -/
def digitalInput (n : Int) (ch : Channel) : Response :=
  if n < 1 ∨ 64 < n then .error (rangeError n) else ofFrame (fun buf => .bool (getBit buf 2 n.toNat)) ch

/-- `getDigitalInputsActive()` (R154). -/
def digitalInputsActive (ch : Channel) : Response := ofFrame (fun buf => .numbers (activeList buf 2 64)) ch

/-- `getAnalogInput(n)` (R155). -/
def analogInput (n : Int) (ch : Channel) : Response :=
  if n < 0 ∨ 15 < n then .error (rangeError n)
  else ofFrame (fun buf => .volts (decodeVolt (memReadSigned buf (16 + 2 * n.toNat)))) ch

/-- `getTTLStatus()` (R156). -/
def ttlStatus (ch : Channel) : Response := ofFrame (fun buf => .word (memRead buf 10 2)) ch

/-! ## The meanings -/

/-- SDO (R131, R186). -/
def execSdo (card n : Nat) (state : Bool) (s : State) : Host.Outcome State Fault Refusal :=
  .next (answer (fleetSet card (SendRegs.setDigital n state) s))

/-- GDO (R133, R186). -/
def execGdo (card n : Nat) (s : State) : Host.Outcome State Fault Refusal :=
  .next (s.respond (fleetGet card (digitalOutput n) s))

/-- STTL (R137, R186). -/
def execSttl (card n : Nat) (state : Bool) (s : State) : Host.Outcome State Fault Refusal :=
  .next (answer (fleetSet card (SendRegs.setTtl n state) s))

/-- GTTL (R139, R186). -/
def execGttl (card n : Nat) (s : State) : Host.Outcome State Fault Refusal :=
  .next (s.respond (fleetGet card (ttlOutput n) s))

/-- SMD (R141, R186). -/
def execSmd (card rows cols : Nat) (s : State) : Host.Outcome State Fault Refusal :=
  .next (answer (fleetSet card (SendRegs.setDims rows cols) s))

/-- GMD (R143, R186). -/
def execGmd (card : Nat) (s : State) : Host.Outcome State Fault Refusal :=
  .next (s.respond (fleetGet card matrixDimensions s))

/-- SAO, the voltage `mv / 1000` volts (R145, R118, R186). -/
def execSao (card n : Nat) (mv : Int) (s : State) : Host.Outcome State Fault Refusal :=
  .next (answer (fleetSetAnalog card n ((mv : Rat) / 1000) s))

/-- GAO (R147, R186). -/
def execGao (card n : Nat) (s : State) : Host.Outcome State Fault Refusal :=
  .next (s.respond (fleetGet card (analogOutput n) s))

/-- ENC (R150, R186). -/
def execEnc (card : Nat) (s : State) : Host.Outcome State Fault Refusal :=
  .next (s.respond (fleetGet card (fun ch => .okValue (.bytes (imageOf s.cfg ch))) s))

/-- GDI (R153, R186). -/
def execGdi (card n : Nat) (s : State) : Host.Outcome State Fault Refusal :=
  .next (s.respond (fleetGet card (digitalInput n) s))

/-- GDIA (R154, R186). -/
def execGdia (card : Nat) (s : State) : Host.Outcome State Fault Refusal :=
  .next (s.respond (fleetGet card digitalInputsActive s))

/-- GAI (R155, R186). -/
def execGai (card n : Nat) (s : State) : Host.Outcome State Fault Refusal :=
  .next (s.respond (fleetGet card (analogInput n) s))

/-- GTS (R156, R186). -/
def execGts (card : Nat) (s : State) : Host.Outcome State Fault Refusal :=
  .next (s.respond (fleetGet card ttlStatus s))

/-- `parse(buf)` on a channel: the frame is stored whole, or nothing changes (R152, R182). That a caller's PARSE writes
`RF`, as R152 and R182 say and R27 and R285 (b) deny, is the model's choice (log entry 36). -/
def parseInto (c : Int) (buf : Datagram) (ch : Channel) (s : State) : Response × State :=
  match toRxBuffer buf with
  | none => (.error (lengthError buf.length), s)
  | some b => (.ok, s.setChan c { ch with rf := some b })

/-- `parse` through the fleet: the payload is the one that stands on wire-RX of the card (R118, R152, R186). DESIGN
CHOICE: it is taken and stored in every run state of the channel, also one that is not Running, for which R282 and U14
say of the event RX that the block never sees the datagram (R182, R183; log entry 40). -/
def fleetParse (c : Int) (s : State) : Response × State :=
  match s.chan c with
  | none => (.absent, s)
  | some ch =>
    let p := s.env.takeDatagram c
    parseInto c p.1 ch (s.setEnv p.2)

/-- PARSE (R152, R186). -/
def execParse (card : Nat) (s : State) : Host.Outcome State Fault Refusal :=
  .next (answer (fleetParse card s))

end Sys2Proof.Machine
end

