-- ==== Sys2Proof/Machine/Channel.lean ====
section
/-!
DEFINITION. The CardChannel and CardFleetManager family: START, STOP, LIVE, STARTALL, STOPALL and the events TICK,
RX, RXWAIT; and the turns in which the caller of a STARTALL or STOPALL takes its cards (spec 41_channel_fleet.md).
-/

namespace Sys2Proof.Machine

/-! ## start and stop -/

/-- `start()` of the channel of card `c`: what it returned, and the state after (R171). -/
def startChannel (c : Int) (ch : Channel) (s : State) : Bool × State :=
  match ch.run with
  | .running => (true, s)
  | .stopped => (false, s)
  | .failed => (false, s)
  | .created =>
    let p := s.env.drawBind
    if p.1 then
      (true, (s.setEnv p.2).setChan c { ch with run := .running, startedAt := some s.env.now })
    else
      (false, ((s.setEnv p.2).setChan c { ch with run := .failed }).emit (.bindFailure ch.id))

/-- The channel after `stop()` (R172). A loop's step is indivisible in this model, so no step is under way
when `stop` is taken: the join is immediate. -/
def Channel.stopped (ch : Channel) : Channel :=
  match ch.run with
  | .running => { ch with run := .stopped }
  | .created => ch
  | .stopped => ch
  | .failed => ch

/-! ## Events -/

/-- The send tick of a running channel: one image, built from `SF[c]` as it is now (R176, R177). -/
def tickChannel (c : Int) (ch : Channel) (s : State) : State :=
  let f := imageOf s.cfg ch
  let p := s.env.drawSend
  if p.1 then
    (s.setEnv (p.2.transmit c f)).setChan c
      { ch with lastTx := some f, txCount := ch.txCount + 1, lastTick := some s.env.now }
  else
    ((s.setEnv p.2).setChan c { ch with txErrors := ch.txErrors + 1, lastTick := some s.env.now }).emit
      (.sendFailure ch.id)

/-- The receive event of a running channel: a payload of 64 bytes is accepted (R178), any other is dropped
(R179). -/
def receiveDatagram (c : Int) (buf : Datagram) (ch : Channel) (s : State) : State :=
  match toRxBuffer buf with
  | some b =>
    s.setChan c
      { ch with
        rf := some b, lastRx := some s.env.now, rxTimes := s.env.now :: ch.rxTimes, rxCount := ch.rxCount + 1 }
  | none => (s.setChan c { ch with rxDropped := ch.rxDropped + 1 }).emit (.malformedLength ch.id buf.length)

/-! ## Dispatch by card id -/

/-- `start(cardId)` (R171, R186). -/
def fleetStart (c : Int) (s : State) : Response × State :=
  match s.chan c with
  | none => (.absent, s)
  | some ch =>
    let r := startChannel c ch s
    (.okValue (.bool r.1), r.2)

/-- `stop(cardId)` (R172, R186). -/
def fleetStop (c : Int) (s : State) : Response × State :=
  match s.chan c with
  | none => (.absent, s)
  | some ch => (.ok, s.setChan c ch.stopped)

/-- The event TICK of a card: it occurs only when the channel is Running, and at most once for a scheduled instant
(R174, R176, R282). -/
def fleetTick (c : Int) (s : State) : State :=
  match s.chan c with
  | none => s
  | some ch => if ch.run = .running ∧ tickDue s.cfg s.env.now ch = true then tickChannel c ch s else s

/-- The event RX of a card: the oldest datagram in flight arrives. A channel that is not Running never sees it
(R178, R179, R282, U14). -/
def fleetRx (c : Int) (s : State) : State :=
  match s.chan c with
  | none => s
  | some ch =>
    let p := s.env.takeDatagram c
    if ch.run = .running then receiveDatagram c p.1 ch (s.setEnv p.2) else s.setEnv p.2

/-! ## startAll and stopAll -/

/-- One card of `startAll()`: what its `start` returned, if there is a channel, and the state after (R188). -/
def startCard (c : Nat) (s : State) : List (Nat × Bool) × State :=
  match s.chan c with
  | none => ([], s)
  | some ch =>
    let r := startChannel c ch s
    ([(c, r.1)], r.2)

/-- The operation after its next card, and the state after it (R188, R189). -/
def FleetOp.takeCard (op : FleetOp) (s : State) : FleetOp × State :=
  match op.kind with
  | .startAll =>
    let r := startCard op.next s
    ({ op with next := op.next + 1, started := op.started ++ r.1 }, r.2)
  | .stopAll => ({ op with next := op.next + 1 }, (fleetStop op.next s).2)

/-- What the operation answers after its last card (R188, R189). -/
def FleetOp.response (op : FleetOp) : Response :=
  match op.kind with
  | .startAll => .okValue (.started op.started)
  | .stopAll => .ok

/-- A STARTALL or STOPALL is requested: its caller will go through the cards, one a turn, ascending (R188, R189; log
entry 21). -/
def State.beginFleetOp (s : State) (kind : FleetOpKind) : State :=
  s.setFleetOps (s.fleetOps ++ [{ kind := kind, next := 1, started := [] }])

/-- The turn of a caller whose STARTALL or STOPALL is in progress: one card, and after card 7 the response. Each card's
operation is a step of its own, since nothing orders operations on different cards (R16, R79). -/
def callerStep (k : Nat) (s : State) : State :=
  match s.fleetOps[k]? with
  | none => s
  | some op =>
    let r := op.takeCard s
    if r.1.next ≤ 7 then r.2.setFleetOps (r.2.fleetOps.set k r.1)
    else (r.2.setFleetOps (r.2.fleetOps.eraseIdx k)).respond r.1.response

/-! ## The meanings -/

/-- START (R171, R186). -/
def execStart (card : Nat) (s : State) : Host.Outcome State Fault Refusal :=
  .next (answer (fleetStart card s))

/-- STOP (R172, R186). -/
def execStop (card : Nat) (s : State) : Host.Outcome State Fault Refusal :=
  .next (answer (fleetStop card s))

/-- LIVE (R180, R186). -/
def execLive (card : Nat) (s : State) : Host.Outcome State Fault Refusal :=
  .next (s.respond (fleetGet card (fun ch => .okValue (.bool (communicationActive s.cfg s.env.now ch))) s))

/-- STARTALL: the caller's turns take the cards (R188; `callerStep`). -/
def execStartall (s : State) : Host.Outcome State Fault Refusal := .next (s.beginFleetOp .startAll)

/-- STOPALL: the caller's turns take the cards (R189; `callerStep`). -/
def execStopall (s : State) : Host.Outcome State Fault Refusal := .next (s.beginFleetOp .stopAll)

/-- TICK (R174, R176, R282). -/
def execTick (card : Nat) (s : State) : Host.Outcome State Fault Refusal := .next (fleetTick card s)

/-- RX (R178, R179, R282). -/
def execRx (card : Nat) (s : State) : Host.Outcome State Fault Refusal := .next (fleetRx card s)

/-- RXWAIT: the bounded wait expired; no state changes (R181). -/
def execRxwait (_card : Nat) (s : State) : Host.Outcome State Fault Refusal := .next s

end Sys2Proof.Machine
end

