-- ==== Sys2Proof/Machine/Router.lean ====
section
/-!
DEFINITION. The PinRouter family: LOOKUP, ROUTE, CLRALL, CLRBITS (spec 42_router.md). A router operation requested
while the engine is busy is refused, with no state change (70_reset_and_hazards.md rule R313).
-/

namespace Sys2Proof.Machine

/-- An engine-side request: refused while the engine is busy, else taken (R313). -/
def whenIdle (s : State) (t : State) : State := if s.busy then s.respond .refused else t

/-- The response of a lookup (R201). -/
def lookupResponse (cfg : Cfg) (pin : Int) (sch : Scheme) : Response :=
  match lookupPattern cfg pin sch with
  | .error e => .error e
  | .ok p => .okValue (.pattern p)

/-- A router operation's end: its response, in the state its writes left (R204, R208). -/
def routerAnswer (r : Option Err × State) : State := r.2.respond (outcomeResponse r.1)

/-- LOOKUP (R201, R313). -/
def execLookup (pin : Nat) (sch : Scheme) (s : State) : Host.Outcome State Fault Refusal :=
  .next (whenIdle s (s.respond (lookupResponse s.cfg pin sch)))

/-- ROUTE (R204, R208, R313). -/
def execRoute (pin : Nat) (sch : Scheme) (s : State) : Host.Outcome State Fault Refusal :=
  .next (whenIdle s (routerAnswer (routePin pin sch s)))

/-- CLRALL (R206, R208, R313). -/
def execClrall (s : State) : Host.Outcome State Fault Refusal :=
  .next (whenIdle s (routerAnswer (clearAllLines s)))

/-- CLRBITS (R207, R208, R313). -/
def execClrbits (p : Pattern) (s : State) : Host.Outcome State Fault Refusal :=
  .next (whenIdle s (routerAnswer (clearBitLines p s)))

end Sys2Proof.Machine
end

