-- ==== Sys2Proof/Machine/Engine.lean ====
section
/-!
DEFINITION. The TestEngine family: PWR, PUP, LGC, SCT, RFT, RUNSEQ, REQSTOP, CLOSE, and the engine worker that
carries a check out (spec 43_test_engine.md). A request starts the check; the worker then takes the numbered
steps of its pipeline one at a time, those with a wait or with several card operations in them part by part, and
events, card operations and `requestStop` may come between them (rules R16, R79, R263, R283; log entry 21). Each step
definition names the step of the pipeline it is.
-/

namespace Sys2Proof.Machine

/-! ## Moving along a pipeline -/

/-- Go to a numbered step (R46). -/
def State.goto (s : State) (step : Nat) : State :=
  (s.setPos { s.pos with step := step }).setWork { s.work with sub := 0 }

/-- `wait(t)`: the worker is suspended until `now` has advanced by at least `t` (R13). -/
def State.sleep (s : State) (t : Time) : State := s.setWork { s.work with wake := some (s.env.now + t) }

/-- On to the next part of the same numbered step (R16, R46; log entry 21). -/
def State.nextPart (s : State) : State := s.setWork { s.work with sub := s.work.sub + 1 }

/-- `pass <- p ; reason <- r` (R220). -/
def State.verdict (s : State) (p : Bool) (r : Reason) : State := s.setWork { s.work with pass := p, reason := r }

/-- `pass <- false ; reason <- r ; goto step`. -/
def State.failTo (s : State) (r : Reason) (step : Nat) : State := (s.verdict false r).goto step

/-- The verdict of a comparison: `ok` or `mismatch`. -/
def State.judge (s : State) (p : Bool) : State := s.verdict p (if p then .ok else .mismatch)

/-- `m <- v`. -/
def State.measured (s : State) (v : Volts) : State := s.setWork { s.work with measured := some v }

/-- The reason an error inside a check becomes (R222, R230). -/
def reasonOf (e : Err) : Reason :=
  match e.cls with
  | .rangeError => .outOfRange
  | _ => .facadeFailure

/-- The sequence after its last check, or stopped: step Q4 (R260). The records stay, for the caller to read their
results; that they are discarded only by the loading of another table is the model's choice (R300; log entry
35). -/
def State.endSequence (s : State) : State := ((s.setPos .idle).setBusy false).setWork .idle

/-- A check returns. In a sequence the next subject follows (R260); a check requested on its own gives its
response and the engine is idle again (R220). -/
def State.finish (s : State) (r : CheckResult) : State :=
  if s.work.inSeq then
    (s.setPos { s.pos with idx := s.pos.idx + 1, step := 0 }).setWork { Work.idle with inSeq := true }
  else s.endSequence.respond (.okValue (.check r))

/-! ## Shared definitions (R221 to R230) -/

/-- `measure(pin)`: the pair's channel, times the voltage scale factor, once; none on a facade failure (R223). -/
def measurePair (k : Nat) (s : State) : Option Volts × State :=
  let r := analogRead (measPin s.cfg k) s
  (r.1.map fun v => s.cfg.vScale * v, r.2)

/-- `measure(pin)` (R223). -/
def measure (pin : Int) (s : State) : Option Volts × State := measurePair (pairOfPin s.cfg pin) s

/-- `setPullup(k, level)`; did the write succeed (R226)? -/
def setPullup (k : Nat) (level : Bool) (s : State) : Bool × State := digitalWrite (pullupPin s.cfg k) level s

/-- `setRelay(k, level)` (R227). -/
def setRelay (k : Nat) (level : Bool) (s : State) : Bool × State := drivePins level (relayPins s.cfg k) s

/-- What a fleet operation's response means for a stimulus: none if it was applied (R222). -/
def stimulusFailure : Response → Option Reason
  | .absent => some .cardAbsent
  | .error _ => some .outOfRange
  | .ok => none
  | .okValue _ => none
  | .refused => none

/-- `applyStimulus(spec, value)`: none if applied, else why it failed (R222). -/
def applyStimulus (spec : Stimulus) (value : Int) (s : State) : Option Reason × State :=
  match spec.kind with
  | .AO =>
    let r := fleetSetAnalog spec.card spec.number (value : Rat) s
    (stimulusFailure r.1, r.2)
  | .DO =>
    if value = 0 ∨ value = 1 then
      let r := fleetSet spec.card (SendRegs.setDigital spec.number (decide (value = 1))) s
      (stimulusFailure r.1, r.2)
    else (some .badValue, s)

/-- `revertQuiet(spec)`: the neutral value, the result ignored (R225). -/
def revertQuiet (spec : Stimulus) (s : State) : State := (applyStimulus spec (neutral spec.kind) s).2

/-- What a read-back can see of the last received frame of a card (R157, R224). -/
def receivedFields (card : Nat) (s : State) : Option InputFields :=
  ((s.chan card).bind Channel.rf).map inputFields

/-- `Cfg.readBack` for an analog output: the fleet's getter by default (R224). -/
def readBackVolts (spec : Stimulus) (s : State) : Option Volts :=
  let held := match fleetGet spec.card (analogOutput spec.number) s with
    | .okValue (.volts v) => some v
    | _ => none
  match s.cfg.readBack with
  | .localGetter => held
  | .other id => Config.readBackVolts id spec.card spec.number held (receivedFields spec.card s)

/-- `Cfg.readBack` for a digital output (R224). -/
def readBackLevel (spec : Stimulus) (s : State) : Option Bool :=
  let held := match fleetGet spec.card (digitalOutput spec.number) s with
    | .okValue (.bool b) => some b
    | _ => none
  match s.cfg.readBack with
  | .localGetter => held
  | .other id => Config.readBackLevel id spec.card spec.number held (receivedFields spec.card s)

/-- The comparison of a verify step, once a fresh frame has come (R224). -/
def readBackMatches (spec : Stimulus) (want : Int) (s : State) : Bool :=
  match spec.kind with
  | .AO =>
    match readBackVolts spec s with
    | none => false
    | some v => within s.cfg v (want : Rat)
  | .DO =>
    match readBackLevel spec s with
    | none => false
    | some b => decide (b = decide (want = 1))

/-- Did a frame come after `t0`, and not after the deadline (R192)? A frame at the deadline itself still counts
(DEDUCED, log entry 12). -/
def freshBy (t0 deadline : Time) (ch : Channel) : Bool := ch.rxTimes.any fun t => decide (t0 < t ∧ t ≤ deadline)

/-- Has `waitFresh(card, t0, ·)` decided: true on a fresh frame, false when the card is absent or the deadline is
reached, none while the worker stays suspended (R192). It writes no state. -/
def waitFresh (card : Nat) (s : State) : Option Bool :=
  match s.chan card with
  | none => some false
  | some ch =>
    if freshBy s.work.t0 s.work.deadline ch then some true
    else if s.work.deadline ≤ s.env.now then some false
    else none

/-- `verifyStep(spec, want, t0)` as far as it has come (R224). It writes no state. -/
def verifyPoll (spec : Stimulus) (want : Int) (s : State) : Option Bool :=
  (waitFresh spec.card s).map fun fresh => fresh && readBackMatches spec want s

/-- A setter step was taken now: its time is the `t0` of the verify step that follows (R222, R224). -/
def State.applied (s : State) : State := s.setWork { s.work with t0 := s.env.now }

/-- `verifyStep` is called now: it waits at most `Cfg.verifyWait` from now (R192, R224). -/
def State.beginVerify (s : State) : State :=
  s.nextPart.setWork { s.nextPart.work with deadline := s.env.now + s.cfg.verifyWait }

/-! ## PowerTest (R231) -/

/-- P1: `clearAll()`. -/
def powerP1 (s : State) : State :=
  let r := clearAllLines s
  match r.1 with
  | some e => r.2.failTo (reasonOf e) 15
  | none => r.2.goto 2

/-- P2: `route(s.pin, A)`. -/
def powerP2 (sub : Subject) (s : State) : State :=
  let r := routePin sub.input.pin .A s
  match r.1 with
  | some e => r.2.failTo (reasonOf e) 15
  | none => r.2.goto 3

/-- P3: `wait(Cfg.settle)`. -/
def powerP3 (s : State) : State := (s.goto 4).sleep s.cfg.settle

/-- P4: `V0 <- measure(s.pin) ; m <- V0`. -/
def powerP4 (sub : Subject) (s : State) : State :=
  let r := measure sub.input.pin s
  match r.1 with
  | none => r.2.failTo .facadeFailure 15
  | some v => (r.2.measured v).goto 5

/-- A directive of the check under way does not match its grammar: "recoverable, logged" (R270, R272 (b)). -/
def State.logDirective (s : State) : State := s.emit (.unparsedDirective s.pos.phase s.pos.idx)

/-- P5: `c <- classifyPowerInput(s.powerInput)`; a string that matches no grammar is logged (R236). -/
def powerP5 (sub : Subject) (s : State) : State :=
  let c := classifyPowerInput sub.input.powerInput
  let t := (s.setWork { s.work with spec := c }).goto 6
  if c.isNone && !isNoStimulusText sub.input.powerInput then t.logDirective else t

/-- P6: without a stimulus, compare `V0`. -/
def powerP6 (sub : Subject) (s : State) : State :=
  match s.work.spec with
  | some _ => s.goto 7
  | none =>
    (s.judge (match s.work.measured with
      | none => false
      | some v => within s.cfg v sub.input.powerExpected)).goto 15

/-- P7: `V0` must be near zero. -/
def powerP7 (s : State) : State :=
  if (s.work.measured.map (nearZero s.cfg)).getD false then s.goto 8 else s.failTo .notNearZero 15

/-- P8: apply the stimulus. -/
def powerP8 (spec : Stimulus) (s : State) : State :=
  let r := applyStimulus spec spec.value s
  match r.1 with
  | some why => r.2.failTo why 15
  | none => r.2.applied.goto 9

/-- P9: verify the read-back; on failure the stimulus is reverted without verification. The getter of the read-back
and the setter of the revert are two parts: another agent may come between them (R16, R79). -/
def powerP9 (spec : Stimulus) (s : State) : State :=
  match s.work.sub with
  | 0 => s.beginVerify
  | 1 =>
    match verifyPoll spec spec.value s with
    | none => s
    | some true => s.goto 10
    | some false => s.nextPart
  | _ => (revertQuiet spec s).failTo .verifyFailed 15

/-- P10: `wait(Cfg.settle)`. -/
def powerP10 (s : State) : State := (s.goto 11).sleep s.cfg.settle

/-- P11: `V1 <- measure(s.pin) ; m <- V1`. A facade failure leaves the check with the stimulus applied, so it is
reverted without verification, in a part of its own (R225, R230). -/
def powerP11 (sub : Subject) (spec : Stimulus) (s : State) : State :=
  match s.work.sub with
  | 0 =>
    let r := measure sub.input.pin s
    match r.1 with
    | none => r.2.nextPart
    | some v => (r.2.measured v).goto 12
  | _ => (revertQuiet spec s).failTo .facadeFailure 15

/-- P12: `r <- revert(c.spec)`: the setter, the call of its verify step, the verify step (R225). -/
def powerP12 (spec : Stimulus) (s : State) : State :=
  match s.work.sub with
  | 0 =>
    let a := applyStimulus spec (neutral spec.kind) s
    match a.1 with
    | some _ => (a.2.setWork { a.2.work with gate := false }).goto 13
    | none => a.2.applied.nextPart
  | 1 => s.beginVerify
  | _ =>
    match verifyPoll spec (neutral spec.kind) s with
    | none => s
    | some b => (s.setWork { s.work with gate := b }).goto 13

/-- P13: a failed revert fails the check. -/
def powerP13 (s : State) : State := if s.work.gate then s.goto 14 else s.failTo .revertFailed 15

/-- P14: compare `V1`. -/
def powerP14 (sub : Subject) (s : State) : State :=
  (s.judge (match s.work.measured with
    | none => false
    | some v => within s.cfg v sub.input.powerExpected)).goto 15

/-- P15: `clearAll()`, each write attempted (R229, R230). -/
def powerP15 (s : State) : State := (restoreLines s).goto 16

/-- P16: write the subject's two fields and return. -/
def powerP16 (sub : Subject) (s : State) : State :=
  let sub' := { sub with powerMeasured := s.work.measured, powerResult := resultOf s.work.pass }
  (s.setSubj (s.subj.set s.pos.idx sub')).finish
    { measured := .ofVolts s.work.measured, pass := s.work.pass, reason := s.work.reason }

/-- The next step of PowerTest. -/
def powerStep (sub : Subject) (s : State) : State :=
  match s.pos.step with
  | 1 => powerP1 s
  | 2 => powerP2 sub s
  | 3 => powerP3 s
  | 4 => powerP4 sub s
  | 5 => powerP5 sub s
  | 6 => powerP6 sub s
  | 7 => powerP7 s
  | 8 => powerP8 (s.work.spec.getD default) s
  | 9 => powerP9 (s.work.spec.getD default) s
  | 10 => powerP10 s
  | 11 => powerP11 sub (s.work.spec.getD default) s
  | 12 => powerP12 (s.work.spec.getD default) s
  | 13 => powerP13 s
  | 14 => powerP14 sub s
  | 15 => powerP15 s
  | _ => powerP16 sub s

/-! ## PullUpTest (R240) -/

/-- Drive the subject's pull-up LOW and leave with a reason: the exits of U4 to U8. The reason given first stands
even if this write fails (R281). -/
def pullUpExit (k : Nat) (why : Reason) (s : State) : State := (setPullup k false s).2.failTo why 12

/-- U1: `clearAll() ; route(s.pin, A) ; wait(Cfg.settle)`. -/
def pullUpU1 (sub : Subject) (s : State) : State :=
  let r := routeClean sub.input.pin .A s
  match r.1 with
  | some e => r.2.failTo (reasonOf e) 12
  | none => (r.2.goto 2).sleep s.cfg.settle

/-- U2: measure `V0`, which must be near zero. -/
def pullUpU2 (sub : Subject) (s : State) : State :=
  let r := measure sub.input.pin s
  match r.1 with
  | none => r.2.failTo .facadeFailure 12
  | some v => if nearZero s.cfg v then (r.2.measured v).goto 3 else (r.2.measured v).failTo .notNearZero 12

/-- U3: assert the pull-up and wait. -/
def pullUpU3 (k : Nat) (s : State) : State :=
  let r := setPullup k true s
  if r.1 then (r.2.goto 4).sleep s.cfg.settle else pullUpExit k .facadeFailure r.2

/-- U4: measure `V1`. -/
def pullUpU4 (sub : Subject) (k : Nat) (s : State) : State :=
  let r := measure sub.input.pin s
  match r.1 with
  | none => pullUpExit k .facadeFailure r.2
  | some v => (r.2.measured v).goto 5

/-- U5: `V1` must be the expected voltage. -/
def pullUpU5 (sub : Subject) (k : Nat) (s : State) : State :=
  if (s.work.measured.map fun v => within s.cfg v sub.input.pullupExpected).getD false then s.goto 6
  else pullUpExit k .mismatch s

/-- U6: with `G`, restore the pull-up and pass. -/
def pullUpU6 (sub : Subject) (k : Nat) (s : State) : State :=
  if isGText sub.input.pullupInput then
    let r := setPullup k false s
    if r.1 then (r.2.verdict true .ok).goto 12 else r.2.failTo .facadeFailure 12
  else s.goto 7

/-- U7: parse the DO directive. A string that does not match is logged (R270); an AO directive matches its grammar, so it
is a `badDirective` and no malformed string (R245, R272 (b); log entry 38). -/
def pullUpU7 (sub : Subject) (k : Nat) (s : State) : State :=
  match parseStimulus sub.input.pullupInput with
  | none => pullUpExit k .badDirective s.logDirective
  | some d =>
    match d.kind with
    | .AO => pullUpExit k .badDirective s
    | .DO => (s.setWork { s.work with spec := some d }).goto 8

/-- U8: apply the directive's own value. -/
def pullUpU8 (spec : Stimulus) (k : Nat) (s : State) : State :=
  let r := applyStimulus spec spec.value s
  match r.1 with
  | some why => pullUpExit k why r.2
  | none => r.2.applied.goto 9

/-- `ok <- b`, with the reason it is false for. -/
def State.gated (s : State) (b : Bool) (why : Reason) : State :=
  s.setWork { s.work with gate := b, reason := if b then .ok else why }

/-- U9: verify the directive. -/
def pullUpU9 (spec : Stimulus) (s : State) : State :=
  if s.work.sub = 0 then s.beginVerify
  else
    match verifyPoll spec spec.value s with
    | none => s
    | some true => (s.gated true .ok).goto 10
    | some false => (s.gated false .verifyFailed).goto 11

/-- U10: wait, measure `V2`, which must be near zero. The restorations of U11 run whatever happens here (R242). -/
def pullUpU10 (sub : Subject) (s : State) : State :=
  if s.work.sub = 0 then s.nextPart.sleep s.cfg.settle
  else
    let r := measure sub.input.pin s
    match r.1 with
    | none => (r.2.gated false .facadeFailure).goto 11
    | some v => (r.2.gated (nearZero s.cfg v) .pullDownMismatch).goto 11

/-- The verdict of U11: `pass <- ok and r1 and r2`. -/
def pullUpVerdict (r2 : Bool) (s : State) : State :=
  if s.work.gate then
    if s.work.restored && r2 then s.verdict true .ok else s.verdict false .revertFailed
  else s.verdict false s.work.reason

/-- U11: restore the pull-up, revert the directive and verify both: the facade write, the setter, the call of its verify
step, the verify step (R225, R242). -/
def pullUpU11 (spec : Stimulus) (k : Nat) (s : State) : State :=
  match s.work.sub with
  | 0 =>
    let p := setPullup k false s
    (p.2.setWork { p.2.work with restored := p.1 }).nextPart
  | 1 =>
    let a := applyStimulus spec (neutral spec.kind) s
    match a.1 with
    | some _ => (pullUpVerdict false a.2).goto 12
    | none => a.2.applied.nextPart
  | 2 => s.beginVerify
  | _ =>
    match verifyPoll spec (neutral spec.kind) s with
    | none => s
    | some b => (pullUpVerdict b s).goto 12

/-- U12: `clearAll()`, each write attempted. -/
def pullUpU12 (s : State) : State := (restoreLines s).goto 13

/-- U13: write the subject's two fields and return. -/
def pullUpU13 (sub : Subject) (s : State) : State :=
  let sub' := { sub with pullupMeasured := s.work.measured, pullupResult := resultOf s.work.pass }
  (s.setSubj (s.subj.set s.pos.idx sub')).finish
    { measured := .ofVolts s.work.measured, pass := s.work.pass, reason := s.work.reason }

/-- The next step of PullUpTest. -/
def pullUpStep (sub : Subject) (s : State) : State :=
  match s.pos.step with
  | 1 => pullUpU1 sub s
  | 2 => pullUpU2 sub s
  | 3 => pullUpU3 (pairOfPin s.cfg sub.input.pin) s
  | 4 => pullUpU4 sub (pairOfPin s.cfg sub.input.pin) s
  | 5 => pullUpU5 sub (pairOfPin s.cfg sub.input.pin) s
  | 6 => pullUpU6 sub (pairOfPin s.cfg sub.input.pin) s
  | 7 => pullUpU7 sub (pairOfPin s.cfg sub.input.pin) s
  | 8 => pullUpU8 (s.work.spec.getD default) (pairOfPin s.cfg sub.input.pin) s
  | 9 => pullUpU9 (s.work.spec.getD default) s
  | 10 => pullUpU10 sub s
  | 11 => pullUpU11 (s.work.spec.getD default) (pairOfPin s.cfg sub.input.pin) s
  | 12 => pullUpU12 s
  | _ => pullUpU13 sub s

/-! ## LogicTest (R247) -/

/-- G1: `clearAll() ; route(s.pin, A)`. -/
def logicG1 (sub : Subject) (s : State) : State :=
  let r := routeClean sub.input.pin .A s
  match r.1 with
  | some e => r.2.failTo (reasonOf e) 8
  | none => r.2.goto 2

/-- The second subject: the first whose `pinId` is the name (R248). An empty name matches none. -/
def secondSubject (l : List Subject) (name : Text) : Option Subject :=
  if name = [] then none else l.find? fun t => decide (t.input.pinId = name)

/-- G2: resolve the second pin; its Power result must be Pass, near zero. -/
def logicG2 (sub : Subject) (s : State) : State :=
  match secondSubject s.subj sub.input.logicPinInput with
  | none => s.failTo .wrongLogicPinInput 8
  | some t =>
    if eligiblePullUp s.cfg t then (s.setWork { s.work with secondPin := t.input.pin }).goto 3
    else s.failTo .wrongLogicPinInput 8

/-- G3: `route(t.pin, B)`. -/
def logicG3 (s : State) : State :=
  let r := routePin s.work.secondPin .B s
  match r.1 with
  | some e => r.2.failTo (reasonOf e) 8
  | none => r.2.goto 4

/-- G4: activate both pins' pair relays. -/
def logicG4 (sub : Subject) (s : State) : State :=
  let r := setRelay (pairOfPin s.cfg sub.input.pin) true (s.setWork { s.work with relays := 1 })
  if r.1 then
    let q := setRelay (pairOfPin s.cfg s.work.secondPin) true (r.2.setWork { r.2.work with relays := 2 })
    if q.1 then q.2.goto 5 else q.2.failTo .facadeFailure 8
  else r.2.failTo .facadeFailure 8

/-- G5: `wait(Cfg.settle)`. -/
def logicG5 (s : State) : State := (s.goto 6).sleep s.cfg.settle

/-- G6: parse the expectation. A string that does not match is logged (R270; log entry 38). -/
def logicG6 (sub : Subject) (s : State) : State :=
  match parseLogicExpected sub.input.logicExpected with
  | none => s.logDirective.failTo .badDirective 8
  | some _ => s.goto 7

/-- G7: read the digital input and compare. -/
def logicG7 (e : LogicExpectation) (s : State) : State :=
  match fleetGet e.card (digitalInput e.number) s with
  | .okValue (.bool d) => ((s.setWork { s.work with bitRead := some d }).judge (decide (d = e.bit))).goto 8
  | .error _ => s.failTo .outOfRange 8
  | _ => s.failTo .cardAbsent 8

/-- G8: deactivate the relays set at G4, and `clearAll()`; each write attempted. -/
def logicG8 (sub : Subject) (s : State) : State :=
  let first := if 1 ≤ s.work.relays then relayPins s.cfg (pairOfPin s.cfg sub.input.pin) else []
  let second := if 2 ≤ s.work.relays then relayPins s.cfg (pairOfPin s.cfg s.work.secondPin) else []
  (restoreLines (restorePins (first ++ second) s)).goto 9

/-- G9: write the subject's result and return. -/
def logicG9 (sub : Subject) (s : State) : State :=
  (s.setSubj (s.subj.set s.pos.idx { sub with logicResult := resultOf s.work.pass })).finish
    { measured := .ofBit s.work.bitRead, pass := s.work.pass, reason := s.work.reason }

/-- The next step of LogicTest. -/
def logicStep (sub : Subject) (s : State) : State :=
  match s.pos.step with
  | 1 => logicG1 sub s
  | 2 => logicG2 sub s
  | 3 => logicG3 s
  | 4 => logicG4 sub s
  | 5 => logicG5 s
  | 6 => logicG6 sub s
  | 7 => logicG7 ((parseLogicExpected sub.input.logicExpected).getD default) s
  | 8 => logicG8 sub s
  | _ => logicG9 sub s

/-! ## ShortCircuitTest (R253) -/

/-- Append an entry to `failed`. -/
def State.addShort (s : State) (e : ShortEntry) : State := s.setWork { s.work with shorts := s.work.shorts ++ [e] }

/-- A facade failure at the outer pin: it is recorded, and the outer iteration ends through S5 (R253, R230). -/
def sweepFailure (p : Nat) (s : State) : State :=
  (s.addShort { outer := p, inner := none, voltage := none }).goto 5

/-- S1: the stop point before each outer pin (R263). Every exit of a check ends by calling `clearAll()` (R229): a later
pin's stop comes right after that of S5, and a stop at the first pin makes it here, each write attempted (log entry
32). -/
def sweepS1 (s : State) : State :=
  if s.stopRequested then (if s.pos.idx = 1 then restoreLines s else s).goto 7 else s.goto 2

/-- S2: `clearAll() ; route(p, A) ; setPullup(Cfg.pairOf(p), true) ; wait(Cfg.settle)`. -/
def sweepS2 (p : Nat) (s : State) : State :=
  let r := routeClean p .A s
  match r.1 with
  | some _ => sweepFailure p r.2
  | none =>
    let u := setPullup (pairOfPin s.cfg p) true r.2
    if u.1 then (u.2.goto 3).sleep s.cfg.settle else sweepFailure p u.2

/-- S3: the outer pin's own voltage, and what is expected of it. -/
def sweepS3 (p : Nat) (s : State) : State :=
  let r := measure p s
  match r.1 with
  | none => sweepFailure p r.2
  | some v => (r.2.setWork { r.2.work with vexp := degradeVolts s.cfg v, inner := 1 }).goto 4

/-- The first half of S4 for the inner pin: `clearAll() ; route(p, A) ; route(q, B) ; wait(Cfg.settle)`. -/
def sweepRoute (p : Nat) (s : State) : State :=
  let r := routeClean p .A s
  match r.1 with
  | some _ => sweepFailure p r.2
  | none =>
    let u := routePin s.work.inner .B r.2
    match u.1 with
    | some _ => sweepFailure p u.2
    | none => u.2.nextPart.sleep s.cfg.settle

/-- Is the inner pin's voltage what it should be? -/
def sweepGood (cfg : Cfg) (p q : Nat) (vexp vq : Volts) : Bool :=
  if q = p then within cfg vq vexp else nearZero cfg vq

/-- On to the next inner pin, or to S5 after the last. -/
def sweepAdvance (s : State) : State :=
  if s.work.inner < 50 then (s.setWork { s.work with inner := s.work.inner + 1 }).goto 4 else s.goto 5

/-- The second half of S4: measure the inner pin and record it if it is wrong. -/
def sweepMeasure (p : Nat) (s : State) : State :=
  let q := s.work.inner
  let r := measure q s
  match r.1 with
  | none => sweepFailure p r.2
  | some v =>
    if sweepGood s.cfg p q s.work.vexp v then sweepAdvance r.2
    else sweepAdvance (r.2.addShort { outer := p, inner := some q, voltage := some v })

/-- S4: one inner pin of the sweep on scheme B. -/
def sweepS4 (p : Nat) (s : State) : State := if s.work.sub = 0 then sweepRoute p s else sweepMeasure p s

/-- After an outer pin: S1 of the next one, and S7 after pin 50 (R253). -/
def sweepNext (p : Nat) (s : State) : State :=
  if p < 50 then (s.setPos { s.pos with idx := p + 1 }).goto 1 else s.goto 7

/-- S5: `setPullup(Cfg.pairOf(p), false) ; clearAll()`, each write attempted; on to the next outer pin. -/
def sweepS5 (p : Nat) (s : State) : State :=
  sweepNext p (restoreLines (setPullup (pairOfPin s.cfg p) false s).2)

/-- S7: return the failed list, with the reason `ok` or `shortsFound` (R253). A check after `close()` fails with
`facadeFailure` whatever its list (R266; log entry 34). -/
def sweepS7 (s : State) : State :=
  let good := s.work.shorts.isEmpty && !s.facadeClosed
  s.finish { measured := .shorts s.work.shorts, pass := good,
             reason := if s.facadeClosed then .facadeFailure else if good then .ok else .shortsFound }

/-- The next step of ShortCircuitTest. -/
def sweepStep (s : State) : State :=
  match s.pos.step with
  | 1 => sweepS1 s
  | 2 => sweepS2 s.pos.idx s
  | 3 => sweepS3 s.pos.idx s
  | 4 => sweepS4 s.pos.idx s
  | 5 => sweepS5 s.pos.idx s
  | _ => sweepS7 s

/-! ## RelayFuseTest (R257) -/

/-- F1: `stopAll()`, one card a part, ascending: nothing orders operations on different cards (R79, R189, R190). -/
def relayF1 (s : State) : State :=
  let t := (fleetStop (s.work.sub + 1) s).2
  if s.work.sub < 6 then t.nextPart else t.goto 2

/-- F2: activate both pairs' relays, then the shared pull-up. -/
def relayF2 (ka kb : Nat) (s : State) : State :=
  let r := drivePins true (relayPins s.cfg ka ++ relayPins s.cfg kb ++ [sharedPullupPin s.cfg ka kb]) s
  if r.1 then r.2.goto 3 else r.2.failTo .facadeFailure 6

/-- F3: `wait(Cfg.settle)`. -/
def relayF3 (s : State) : State := (s.goto 4).sleep s.cfg.settle

/-- F4: measure the two channels. -/
def relayF4 (ka kb : Nat) (s : State) : State :=
  let r := measurePair ka s
  match r.1 with
  | none => r.2.failTo .facadeFailure 6
  | some va =>
    let q := measurePair kb r.2
    match q.1 with
    | none => q.2.failTo .facadeFailure 6
    | some vb => (q.2.setWork { q.2.work with both := some (va, vb) }).goto 5

/-- F5: the readings must agree. -/
def relayF5 (s : State) : State :=
  (s.judge (match s.work.both with
    | none => false
    | some (va, vb) => within s.cfg va vb)).goto 6

/-- F6: restore every line: the shared pull-up, the relays, `clearAll()`; each write attempted. -/
def relayF6 (ka kb : Nat) (s : State) : State :=
  (restoreLines (restorePins
    (sharedPullupPin s.cfg ka kb :: (relayPins s.cfg ka ++ relayPins s.cfg kb)) s)).goto 7

/-- F7: return. -/
def relayF7 (s : State) : State :=
  s.finish { measured := .ofBoth s.work.both, pass := s.work.pass, reason := s.work.reason }

/-- The next step of RelayFuseTest. -/
def relayStep (s : State) : State :=
  match s.pos.step with
  | 1 => relayF1 s
  | 2 => relayF2 s.work.pairA s.work.pairB s
  | 3 => relayF3 s
  | 4 => relayF4 s.work.pairA s.work.pairB s
  | 5 => relayF5 s
  | 6 => relayF6 s.work.pairA s.work.pairB s
  | _ => relayF7 s

/-! ## The sequence (R260 to R263) and the worker -/

/-- `seq.pos <- (phase, 0, 0)`: the next phase of the sequence begins (R260). -/
def State.enterPhase (s : State) (p : Phase) : State := s.setPos { phase := p, idx := 0, step := 0 }

/-- The phase of the sequence is over (R260: Q1 to Q4). -/
def State.phaseDone (s : State) : State :=
  match s.pos.phase with
  | .power => s.enterPhase .pullUp
  | .pullUp => s.enterPhase .logic
  | .logic => s.endSequence
  | .idle => s.endSequence
  | .sweep => s.endSequence
  | .relayFuse => s.endSequence

/-- May the check of this phase run on the subject (R240 U0, R247 G0, R261)? -/
def eligible (cfg : Cfg) (p : Phase) (sub : Subject) : Bool :=
  match p with
  | .pullUp => eligiblePullUp cfg sub
  | .logic => eligibleLogic cfg sub
  | .power => true
  | .idle => true
  | .sweep => true
  | .relayFuse => true

/-- The stop point before a check of the sequence, then the check's start or its skip, with a warning (R260,
R262, R263). A skip inside a sequence gives no response: the sequence has had its one response, `ok`, and the
`ok(skipped)` of R262 answers a request of its own only (log entry 33). -/
def sequenceGate (sub : Subject) (s : State) : State :=
  if s.stopRequested then s.endSequence
  else if eligible s.cfg s.pos.phase sub then s.goto 1
  else (s.emit (.skipped s.pos.phase s.pos.idx)).setPos { s.pos with idx := s.pos.idx + 1, step := 0 }

/-- The next step of a check of the subject at `seq.pos.idx`, or of the sequence. -/
def subjectStep (f : Subject → State → State) (s : State) : State :=
  match s.subj[s.pos.idx]? with
  | none => s.phaseDone
  | some sub => if s.pos.step = 0 then sequenceGate sub s else f sub s

/-- The next step of the engine, the worker not being suspended (R46). -/
def engineStep (s : State) : State :=
  match s.pos.phase with
  | .idle => s
  | .power => subjectStep powerStep s
  | .pullUp => subjectStep pullUpStep s
  | .logic => subjectStep logicStep s
  | .sweep => sweepStep s
  | .relayFuse => relayStep s

/-- The engine worker's turn: nothing while the engine is idle or the worker is suspended in a `wait` (R13,
R16). -/
def workerStep (s : State) : State :=
  if s.busy then
    match s.work.wake with
    | none => engineStep s
    | some t => if s.env.now < t then s else engineStep (s.setWork { s.work with wake := none })
  else s

/-! ## The meanings -/

/-- The worker begins a check requested on its own (R220). -/
def State.beginCheck (s : State) (p : SeqPos) (w : Work) : State := ((s.setBusy true).setPos p).setWork w

/-- The response to a check requested for an index outside the subject table: not known which, but no error (log
entry 8). -/
def noSubjectResponse (idx : Nat) : Response :=
  match Config.noSubject idx with
  | .absent => .absent
  | .refused => .refused
  | .outOfRange => .okValue (.check { measured := .none, pass := false, reason := .outOfRange })

/-- A check of a subject is requested: refused while busy (R313); skipped, with a warning, when the subject is not
eligible (R262); else begun. For an index outside the subject table there is no subject to check, and what
the block answers is a free value. -/
def requestCheck (p : Phase) (idx : Nat) (s : State) : State :=
  whenIdle s
    (match s.subj[idx]? with
    | none => s.respond (noSubjectResponse idx)
    | some sub =>
      if eligible s.cfg p sub then s.beginCheck { phase := p, idx := idx, step := 1 } .idle
      else (s.emit (.skipped p idx)).respond (.okValue .skipped))

/-- PWR (R231, R313). -/
def execPwr (subject : Nat) (s : State) : Host.Outcome State Fault Refusal :=
  .next (requestCheck .power subject s)

/-- PUP (R240, R262, R313). -/
def execPup (subject : Nat) (s : State) : Host.Outcome State Fault Refusal :=
  .next (requestCheck .pullUp subject s)

/-- LGC (R247, R262, R313). -/
def execLgc (subject : Nat) (s : State) : Host.Outcome State Fault Refusal :=
  .next (requestCheck .logic subject s)

/-- SCT (R253, R313). -/
def execSct (s : State) : Host.Outcome State Fault Refusal :=
  .next (whenIdle s (s.beginCheck { phase := .sweep, idx := 1, step := 1 } .idle))

/-- RFT (R257, R313). -/
def execRft (pairA pairB : Nat) (s : State) : Host.Outcome State Fault Refusal :=
  .next (whenIdle s
    (s.beginCheck { phase := .relayFuse, idx := 0, step := 1 } { Work.idle with pairA := pairA, pairB := pairB }))

/-- RUNSEQ: step Q0; the response is given at once (R260, R313). -/
def execRunseq (s : State) : Host.Outcome State Fault Refusal :=
  .next (whenIdle s
    (((s.setStop false).beginCheck { phase := .power, idx := 0, step := 0 }
      { Work.idle with inSeq := true }).respond .ok))

/-- REQSTOP (R264). -/
def execReqstop (s : State) : Host.Outcome State Fault Refusal :=
  .next ((s.setStop true).respond .ok)

/-- CLOSE (R266, R313). R266 states no response: it is `ok`, also when the facade is closed already, and then the call
is forwarded again (log entry 37). -/
def execClose (s : State) : Host.Outcome State Fault Refusal :=
  .next (whenIdle s (((s.setClosed true).call (.close s.env.now)).respond .ok))

end Sys2Proof.Machine
end

