-- ==== Sys2Proof/Machine/Dispatch.lean ====
section
/-!
DEFINITION. One arm per operation and event of the block: its meaning (spec 30_encoding.md rule R117).
-/

namespace Sys2Proof.Machine

def exec (i : Instr) (s : State) : Host.Outcome State Fault Refusal :=
  match i with
  | .sdo card n state => Sys2Proof.Machine.execSdo card n state s
  | .gdo card n => Sys2Proof.Machine.execGdo card n s
  | .sttl card n state => Sys2Proof.Machine.execSttl card n state s
  | .gttl card n => Sys2Proof.Machine.execGttl card n s
  | .smd card rows cols => Sys2Proof.Machine.execSmd card rows cols s
  | .gmd card => Sys2Proof.Machine.execGmd card s
  | .sao card n mv => Sys2Proof.Machine.execSao card n mv s
  | .gao card n => Sys2Proof.Machine.execGao card n s
  | .enc card => Sys2Proof.Machine.execEnc card s
  | .gdi card n => Sys2Proof.Machine.execGdi card n s
  | .gdia card => Sys2Proof.Machine.execGdia card s
  | .gai card n => Sys2Proof.Machine.execGai card n s
  | .gts card => Sys2Proof.Machine.execGts card s
  | .parse card => Sys2Proof.Machine.execParse card s
  | .start card => Sys2Proof.Machine.execStart card s
  | .stop card => Sys2Proof.Machine.execStop card s
  | .live card => Sys2Proof.Machine.execLive card s
  | .startall => Sys2Proof.Machine.execStartall s
  | .stopall => Sys2Proof.Machine.execStopall s
  | .tick card => Sys2Proof.Machine.execTick card s
  | .rx card => Sys2Proof.Machine.execRx card s
  | .rxwait card => Sys2Proof.Machine.execRxwait card s
  | .lookup pin scheme => Sys2Proof.Machine.execLookup pin scheme s
  | .route pin scheme => Sys2Proof.Machine.execRoute pin scheme s
  | .clrall => Sys2Proof.Machine.execClrall s
  | .clrbits pattern => Sys2Proof.Machine.execClrbits pattern s
  | .pwr subject => Sys2Proof.Machine.execPwr subject s
  | .pup subject => Sys2Proof.Machine.execPup subject s
  | .lgc subject => Sys2Proof.Machine.execLgc subject s
  | .sct => Sys2Proof.Machine.execSct s
  | .rft pairA pairB => Sys2Proof.Machine.execRft pairA pairB s
  | .runseq => Sys2Proof.Machine.execRunseq s
  | .reqstop => Sys2Proof.Machine.execReqstop s
  | .close => Sys2Proof.Machine.execClose s

end Sys2Proof.Machine
end

