-- ==== Sys2Proof/Machine/Agenda.lean ====
section
/-!
DEFINITION. Who acts next and with what: the fetch of the next input, the command interface and its refusal of
words that are no operation (spec 30_encoding.md rule R120), the events of the loops, and the inputs of the
environment (00_scope.md rules R12, R15, R16; 10_state.md rule R48).
-/

namespace Sys2Proof.Machine

/-- The next input: the first of the agenda, or a free one when the agenda lists nothing (R16). -/
def fetchInput (s : State) : Input × State :=
  match s.env.agenda with
  | i :: l => (i, s.setEnv { s.env with agenda := l })
  | [] => (Config.nextInput s.env.draws, s.setEnv { s.env with draws := s.env.draws + 1 })

/-- A word on the command interface: an operation is executed; an unassigned opcode and an event are refused with
`error(FormatError, op)`, and no state changes (R117, R120). -/
def runCommand (w : Word) (s : State) : Host.Outcome State Fault Refusal :=
  match decode w with
  | .ok i => if i.isEvent then .next (s.raise (opcodeError w.op)) else exec i s
  | .error (.unassigned op) => .next (s.raise (opcodeError op))

/-- An event taken by a loop or the environment, as its word writes it down (R117). A word that is no event is
taken by no loop. -/
def runEvent (w : Word) (s : State) : Host.Outcome State Fault Refusal :=
  match decode w with
  | .ok i => if i.isEvent then exec i s else .next s
  | .error _ => .next s

/-- The clock shows a time; `now` never decreases (R12). -/
def Env.clockAt (t : Time) (e : Env) : Env := { e with now := max e.now t }

/-- A datagram comes to wire-RX of a card, behind those in flight (R15, R48). -/
def Env.deliver (c : Int) (d : Datagram) (e : Env) : Env :=
  { e with rxWire := e.rxWire.setIfInBounds (cardIndex c) (e.rxWire[cardIndex c]?.getD [] ++ [d]) }

/-- The network takes the oldest datagram off wire-TX of a card (R48). -/
def Env.carry (c : Int) (e : Env) : Env :=
  { e with txWire := e.txWire.setIfInBounds (cardIndex c) ((e.txWire[cardIndex c]?.getD []).drop 1) }

/-- An operation on wires applies to a card id 1..7 only. -/
def onWire (c : Nat) (e f : Env) : Env := if 1 ≤ c ∧ c ≤ 7 then f else e

/-- The subject table is loaded, every record fresh (R40, R300). The records of a sequence under way stay as they
are to its end (R43), and after it until another table is loaded (the model's choice, R300 names no other step that
discards them: log entry 35). -/
def loadSubjects (l : List SubjectInput) (s : State) : State :=
  if s.busy then s else s.setSubj (l.map Subject.fresh)

/-- What an input does. -/
def runInput (i : Input) (s : State) : Host.Outcome State Fault Refusal :=
  match i with
  | .command w => runCommand w s
  | .event w => runEvent w s
  | .worker => .next (workerStep s)
  | .caller k => .next (callerStep k s)
  | .clock t => .next (s.setEnv (s.env.clockAt t))
  | .deliver c d => .next (s.setEnv (onWire c s.env (s.env.deliver c d)))
  | .carry c => .next (s.setEnv (onWire c s.env (s.env.carry c)))
  | .subjects l => .next (loadSubjects l s)

/-- The input that makes a word of the opcode table happen: a request for an operation, an event for an event. -/
def wordInput (nbits w : Nat) : Input :=
  match decodeTableWord nbits w with
  | some i => if i.isEvent then .event (tableWord nbits w) else .command (tableWord nbits w)
  | none => .command (tableWord nbits w)

/-- The agenda with an input before all others. -/
def State.prepend (s : State) (i : Input) : State := s.setEnv { s.env with agenda := i :: s.env.agenda }

end Sys2Proof.Machine
end

