-- ==== Sys2Proof/Machine/Step.lean ====
section
/-!
DEFINITION. One step of the block: the next input is fetched and taken (spec 00_scope.md rule R16).
-/

namespace Sys2Proof.Machine

/-- One step: whoever acts next, acts. -/
def step (s : State) : Host.Outcome State Fault Refusal := runInput (fetchInput s).1 (fetchInput s).2

/-- The state in which the next step runs this word: it stands first in the agenda (R15: requests arrive on the
command interface; events are taken by the loops). -/
def State.withFetchWord (s : State) (nbits w : Nat) : State := s.prepend (wordInput nbits w)

end Sys2Proof.Machine
end

