-- ==== Sys2Proof/Safety.lean ====
section
/-!
DEFINITION. What counts as a safe run of the block, in the terms the claims use: which operations a rule covers,
when the facade answers well, and the invariants of the machine (spec 00_scope.md rule R15; 10_state.md;
20_memory.md rules R83, R86; 41_channel_fleet.md rules R171, R174, R186; 43_test_engine.md rules R220, R229, R267;
70_reset_and_hazards.md rules R310, R313).
-/

namespace Sys2Proof

/-- The card a fleet operation names: every operation of R182, and START, STOP and LIVE (R187). -/
def Instr.fleetCard : Instr → Option Nat
  | .sdo c _ _ => some c
  | .gdo c _ => some c
  | .sttl c _ _ => some c
  | .gttl c _ => some c
  | .smd c _ _ => some c
  | .gmd c => some c
  | .sao c _ _ => some c
  | .gao c _ => some c
  | .enc c => some c
  | .gdi c _ => some c
  | .gdia c => some c
  | .gai c _ => some c
  | .gts c => some c
  | .parse c => some c
  | .start c => some c
  | .stop c => some c
  | .live c => some c
  | .startall => none
  | .stopall => none
  | .tick _ => none
  | .rx _ => none
  | .rxwait _ => none
  | .lookup _ _ => none
  | .route _ _ => none
  | .clrall => none
  | .clrbits _ => none
  | .pwr _ => none
  | .pup _ => none
  | .lgc _ => none
  | .sct => none
  | .rft _ _ => none
  | .runseq => none
  | .reqstop => none
  | .close => none

/-- The requests that are refused while the engine is busy: a check, a sequence, a router operation, `close()`
(R313). -/
def Instr.engineSide : Instr → Bool
  | .sdo _ _ _ => false
  | .gdo _ _ => false
  | .sttl _ _ _ => false
  | .gttl _ _ => false
  | .smd _ _ _ => false
  | .gmd _ => false
  | .sao _ _ _ => false
  | .gao _ _ => false
  | .enc _ => false
  | .gdi _ _ => false
  | .gdia _ => false
  | .gai _ _ => false
  | .gts _ => false
  | .parse _ => false
  | .start _ => false
  | .stop _ => false
  | .live _ => false
  | .startall => false
  | .stopall => false
  | .tick _ => false
  | .rx _ => false
  | .rxwait _ => false
  | .lookup _ _ => true
  | .route _ _ => true
  | .clrall => true
  | .clrbits _ => true
  | .pwr _ => true
  | .pup _ => true
  | .lgc _ => true
  | .sct => true
  | .rft _ _ => true
  | .runseq => true
  | .reqstop => false
  | .close => true

/-- The assigned opcodes (R117). -/
def assignedOpcode (op : Nat) : Prop :=
  (0x01 ≤ op ∧ op ≤ 0x0E) ∨ (0x10 ≤ op ∧ op ≤ 0x17) ∨ (0x20 ≤ op ∧ op ≤ 0x23) ∨ (0x28 ≤ op ∧ op ≤ 0x2F)

/-- The opcodes of the events TICK, RX and RXWAIT (R117). -/
def eventOpcode (op : Nat) : Prop := op = 0x15 ∨ op = 0x16 ∨ op = 0x17

end Sys2Proof

namespace Sys2Proof.Machine

/-! ## The facade -/

/-- The facade is open, and its next `n` writes succeed (R277). -/
def State.writesSucceed (s : State) (n : Nat) : Prop :=
  s.facadeClosed = false ∧ s.env.writes.take n = List.replicate n true

/-- The facade pins of a pattern's lines (R78, R204). -/
def linePins (cfg : Cfg) (p : Pattern) : List FacadePin := (patternLines p).map fun i => cfg.linePin[i]

/-- The entry of a lookup table for a pin 1..50 (R200, R201). -/
def tableEntry (cfg : Cfg) (pin : Nat) : Scheme → Option Pattern
  | .A => cfg.tableA[pin - 1]?
  | .B => cfg.tableB[pin - 1]?

/-- The facade calls of writing these pins now, all succeeding, newest first. -/
def writeCalls (now : Time) (level : Bool) (l : List FacadePin) : List FacadeCall :=
  (l.map fun q => FacadeCall.dw now q level true).reverse

/-- When a facade call was made. -/
def FacadeCall.time : FacadeCall → Time
  | .dw t _ _ _ => t
  | .ar t _ _ => t
  | .close t => t

/-- Is it a `digitalWrite`? -/
def FacadeCall.isWrite : FacadeCall → Bool
  | .dw _ _ _ _ => true
  | .ar _ _ _ => false
  | .close _ => false

/-- Every write of this trace was made at least the settle delay before time `t` (R83, R310). -/
def settledBy (settle t : Time) (l : List FacadeCall) : Prop :=
  ∀ c ∈ l, c.isWrite = true → c.time + settle ≤ t

/-- The settle barrier: every `analogRead` of the trace came at least the settle delay after every write made
before it. The trace is newest first (R83, R310). -/
def settledTrace (settle : Time) : List FacadeCall → Prop
  | [] => True
  | .ar t _ _ :: l => settledBy settle t l ∧ settledTrace settle l
  | .dw _ _ _ _ :: l => settledTrace settle l
  | .close _ :: l => settledTrace settle l

/-- All that differs is what facade calls write: the pins, the draws of their answers, the trace of calls. -/
def FacadeOnly (s t : State) : Prop :=
  t = { s with
    pins := t.pins
    facade := t.facade
    env := { s.env with draws := t.env.draws, writes := t.env.writes, reads := t.env.reads } }

/-- A run of writes to control lines stopped at line `i`: the lines before it hold the level, line `i` holds no value,
no other pin has changed, and the answer names the line (R208). -/
def StoppedAtLine (level : Bool) (before : List (Fin 16)) (i : Fin 16) (rest : List Bool) (s t : State) : Prop :=
  (∀ q, t.fp q =
    if q = s.cfg.linePin[i] then none
    else if q ∈ before.map (fun j => s.cfg.linePin[j]) then some level
    else s.fp q) ∧
  t = { s with
    pins := t.pins
    env := { s.env with writes := rest }
    facade := .dw s.env.now s.cfg.linePin[i] level false ::
      (writeCalls s.env.now level (before.map fun j => s.cfg.linePin[j]) ++ s.facade)
    responses := .error (lineError i.val) :: s.responses }

/-- The trace has grown only by calls made now. -/
def TraceGrows (s t : State) : Prop :=
  ∃ l, t.facade = l ++ s.facade ∧ ∀ c ∈ l, c.time = s.env.now

/-! ## The engine's worker -/

/-- What the engine may change of a channel: the frame registers, by a stimulus, and `run`, by `stopAll`. -/
def SessionKept : Option Channel → Option Channel → Prop
  | none, none => True
  | some a, some b =>
    b = { a with sf := b.sf, run := b.run } ∧ (b.run = a.run ∨ (a.run = .running ∧ b.run = .stopped))
  | none, some _ => False
  | some _, none => False

/-- What a turn of the engine worker leaves alone: the configuration, the clock and the wires, whether the facade is
open, `stopRequested`, the callers' operations in progress, every receive buffer, timestamp and counter, the input
fields of the subjects; and the pin memory keeps its form (R43, R263, R283, R285). -/
def WorkerFrame (s t : State) : Prop :=
  t.cfg = s.cfg ∧ t.facadeClosed = s.facadeClosed ∧ t.stopRequested = s.stopRequested ∧ t.fleetOps = s.fleetOps ∧
  t.env = { s.env with
    draws := t.env.draws
    writes := t.env.writes
    reads := t.env.reads
    ties := t.env.ties } ∧
  (∀ k : Fin 7, SessionKept s.fleet[k] t.fleet[k]) ∧
  t.subj.map Subject.input = s.subj.map Subject.input ∧
  TraceGrows s t ∧ (s.pins.wf → t.pins.wf)

/-! ## The invariant of the state -/

/-- What holds of the channel of card `c` (R32 to R34, R48, R171): its constants are those of the configuration;
its timestamps are not in the future; a last frame and a last image stand exactly where the counters say one was
accepted or sent; the times of the accepted frames are as many as the counter says, the last of them `lastRx`; an
image has 32 bytes; and a channel that never ran has counted nothing. -/
def ChannelOk (cfg : Cfg) (now : Time) (c : Nat) (ch : Channel) : Prop :=
  ch.id = c ∧ ch.enabled = true ∧
  (∃ k, cfg.card[c - 1]? = some (some k) ∧ k.enabled = true ∧
    ch.txEndpoint = k.txEndpoint ∧ ch.rxEndpoint = k.rxEndpoint) ∧
  (∀ t, ch.lastRx = some t → t ≤ now) ∧ (∀ t, ch.lastTick = some t → t ≤ now) ∧
  ch.lastRx = ch.rxTimes.head? ∧ ch.rxCount = ch.rxTimes.length ∧
  (ch.lastRx.isSome = true ↔ 0 < ch.rxCount) ∧ (0 < ch.rxCount → ch.rf.isSome = true) ∧
  (ch.lastTx.isSome = true ↔ 0 < ch.txCount) ∧ (∀ f, ch.lastTx = some f → f.length = 32) ∧
  (ch.run = .created ∨ ch.run = .failed →
    ch.txCount = 0 ∧ ch.txErrors = 0 ∧ ch.rxCount = 0 ∧ ch.rxDropped = 0)

/-- The fleet map is the configuration's: a channel exactly for the enabled cards (R38, R185). -/
def FleetOk (s : State) : Prop :=
  ∀ c : Nat, 1 ≤ c → c ≤ 7 →
    match s.chan c with
    | some ch => ChannelOk s.cfg s.env.now c ch
    | none => ∀ k, s.cfg.card[c - 1]? = some (some k) → k.enabled = false

/-- The last step of each pipeline (R46). -/
def lastStep : Phase → Nat
  | .idle => 0
  | .power => 16
  | .pullUp => 13
  | .logic => 9
  | .sweep => 7
  | .relayFuse => 7

/-- The sequencer position is a legal one, and idle exactly when the engine is not busy (R45, R46). -/
def EngineOk (s : State) : Prop :=
  (s.busy = false → s.pos = .idle ∧ s.work = .idle) ∧
  (s.busy = true → s.pos.phase ≠ .idle) ∧
  s.pos.step ≤ lastStep s.pos.phase ∧
  (s.pos.phase = .sweep → 1 ≤ s.pos.step ∧ 1 ≤ s.pos.idx ∧ s.pos.idx ≤ 50 ∧ s.work.inSeq = false) ∧
  (s.pos.phase = .relayFuse → 1 ≤ s.pos.step ∧ s.work.inSeq = false)

/-- Every image on a wire has 32 bytes (R100). -/
def WiresOk (s : State) : Prop :=
  ∀ (k : Nat) (f : Datagram), f ∈ s.env.txWire[k]?.getD [] → f.length = 32

/-- While PullUpTest is at U11 past its first restoration, the pull-up's, that one has been made: the pull-up line is
not HIGH (R240, R242). -/
def PullUpOk (s : State) : Prop :=
  s.busy = true → s.pos.phase = .pullUp → s.pos.step = 11 → s.work.sub ≠ 0 →
    ∀ sub, s.subj[s.pos.idx]? = some sub → s.pullup (pairOfPin s.cfg sub.input.pin) ≠ some true

/-- A STARTALL or STOPALL in progress stands at one of the seven cards, and a STARTALL has an answer of exactly the
cards before it that have a channel, ascending (R188, R189). -/
def FleetOpsOk (s : State) : Prop :=
  ∀ op ∈ s.fleetOps, 1 ≤ op.next ∧ op.next ≤ 7 ∧
    op.started.map Prod.fst =
      if op.kind = .startAll then
        (List.range' 1 (op.next - 1)).filter fun c : Nat => (s.chan c).isSome
      else []

/-- The invariant of the state. The configuration meets the constraints R9 and R203 put on it. -/
def Inv (s : State) : Prop :=
  s.cfg.valid ∧ s.pins.wf ∧ FleetOk s ∧ EngineOk s ∧ WiresOk s ∧ PullUpOk s ∧ FleetOpsOk s

/-! ## The settle barrier as an invariant -/

/-- Is the next step of the engine one that reads the facade (R231 P4, P11; R240 U2, U4, U10; R253 S3, S4;
R257 F4)? -/
def measuring (pos : SeqPos) (sub : Nat) : Bool :=
  match pos.phase with
  | .idle => false
  | .power => decide (pos.step = 4 ∨ (pos.step = 11 ∧ sub = 0))
  | .pullUp => decide (pos.step = 2 ∨ pos.step = 4 ∨ (pos.step = 10 ∧ sub ≠ 0))
  | .logic => false
  | .sweep => decide (pos.step = 3 ∨ (pos.step = 4 ∧ sub ≠ 0))
  | .relayFuse => decide (pos.step = 4)

/-- Is a stimulus applied, and its effect still to be measured: PowerTest P9 to P11, PullUpTest U9 and U10? Its
setter step was taken at `work.t0` (R222). -/
def stimulated (pos : SeqPos) : Bool :=
  match pos.phase with
  | .idle => false
  | .power => decide (9 ≤ pos.step ∧ pos.step ≤ 11)
  | .pullUp => decide (9 ≤ pos.step ∧ pos.step ≤ 10)
  | .logic => false
  | .sweep => false
  | .relayFuse => false

/-- Every measurement made so far came after the settle delay, and the next one will (R83, R310): before a step
that measures, the worker is suspended until all earlier writes, and the stimulus setter that came before, have
settled. -/
def SettledInv (s : State) : Prop :=
  EngineOk s ∧ settledTrace s.cfg.settle s.facade ∧ (∀ c ∈ s.facade, c.time ≤ s.env.now) ∧
  (s.busy = true → stimulated s.pos = true → s.work.t0 ≤ s.env.now) ∧
  (s.busy = true → measuring s.pos s.work.sub = true →
    ∃ t, s.work.wake = some t ∧ settledBy s.cfg.settle t s.facade ∧
      (stimulated s.pos = true → s.work.t0 + s.cfg.settle ≤ t))

/-! ## Turns of the worker -/

/-- The engine is busy and its worker is not suspended in a wait (R13, R16). -/
def State.ready (s : State) : Prop := s.busy = true ∧ ∀ t, s.work.wake = some t → t ≤ s.env.now

/-- The worker out of its wait. -/
def State.awake (s : State) : State := { s with work := { s.work with wake := none } }

/-- The engine at the beginning of a numbered step of its pipeline, with these values of the check (R46). -/
def State.atStep (s : State) (n : Nat) (w : Work) : State :=
  { s with pos := { s.pos with step := n }, work := { w with sub := 0 } }

/-! ## Verdicts -/

/-- Is the pipeline past the point where its verdict is decided: at its cleanup or its return? -/
def decided (pos : SeqPos) : Bool :=
  match pos.phase with
  | .idle => false
  | .power => decide (15 ≤ pos.step)
  | .pullUp => decide (12 ≤ pos.step)
  | .logic => decide (8 ≤ pos.step)
  | .sweep => false
  | .relayFuse => decide (6 ≤ pos.step)

/-- "`pass` is true exactly when the reason is `ok`" (R267), of every check that has returned and of the check that
is about to. -/
def VerdictInv (s : State) : Prop :=
  EngineOk s ∧
  (∀ r, Response.okValue (.check r) ∈ s.responses → (r.pass = true ↔ r.reason = .ok)) ∧
  (s.busy = true → decided s.pos = true → (s.work.pass = true ↔ s.work.reason = .ok)) ∧
  (s.busy = true → s.pos.phase = .pullUp → s.pos.step = 11 → s.work.gate = false → s.work.reason ≠ .ok)

/-! ## Runs -/

/-- `n` steps of the machine, one after another (R16). -/
def stepN : Nat → State → Host.Outcome State Fault Refusal
  | 0, s => .next s
  | n + 1, s =>
    match step s with
    | .next t => stepN n t
    | .fault r => .fault r
    | .refused r => .refused r

/-! ## Directives -/

/-- The text of a kind in a directive (R112). -/
def kindText : StimKind → Text
  | .AO => ['A', 'O']
  | .DO => ['D', 'O']

/-- A non-empty string of decimal digits, and its value (R111). -/
def isDecimal (d : Text) (n : Nat) : Prop := d ≠ [] ∧ (∀ c ∈ d, isDigit c = true) ∧ digitsValue d = n

/-- A directive without a stimulus: the two special strings, and every string the grammar does not match (R114,
R221, R236). -/
def namesNoStimulus (t : Text) : Prop := t = [] ∨ t = ['n', 'o', 'n', 'e'] ∨ parseStimulus t = none

/-! ## Stop points -/

/-- The worker stands at a point where it reads `stopRequested`: before a check of a sequence, before an outer pin
of the sweep (R263). -/
def atStopPoint (s : State) : Prop :=
  (s.pos.phase = .sweep ∧ s.pos.step = 1) ∨
  ((s.pos.phase = .power ∨ s.pos.phase = .pullUp ∨ s.pos.phase = .logic) ∧ s.pos.step = 0)

end Sys2Proof.Machine
end

