-- ==== Sys2Proof/Certificates/Slice0/Obligations.lean ====
section
/-!
DEFINITION. The statements for the provers. Each docstring names the rules of spec/ a statement formalises; a
statement that rests on a choice of the model says so and names the log entry.
-/

section

open Sys2Proof Sys2Proof.Machine

/-! ## Encoding -/

/-- R116 to R118: every well-formed operation and event is read back from its command word. -/
def Obligations.DecodeOfEncode : Prop :=
  ∀ i : Instr, i.wf = true → decode (encode i) = .ok i

/-- R116, R117: the decoder reads an instruction from a word exactly when its opcode is assigned; the instruction has
that opcode and operands that fit their fields. Every other opcode (00, 0F, 18 to 1F, 24 to 27, 30 to 3F) is refused
by name. -/
def Obligations.AssignedOpcodesDecode : Prop :=
  ∀ w : Word,
    ((w.op = 0 ∨ w.op = 0x0F ∨ (0x18 ≤ w.op ∧ w.op ≤ 0x1F) ∨ (0x24 ≤ w.op ∧ w.op ≤ 0x27) ∨ 0x30 ≤ w.op) ∧
      decode w = .error (.unassigned w.op)) ∨
    (assignedOpcode w.op ∧ ∃ i, decode w = .ok i ∧ i.opcode = w.op ∧ i.wf = true)

/-- The words of section 2.10 of the test vectors, one or more of each family (R116 to R118). -/
def Obligations.SpecWordsDecode : Prop :=
  decode 0x04850001#32 = .ok (.sdo 1 5 true) ∧
  decode 0x14830004#32 = .ok (.smd 1 3 4) ∧
  decode 0x1C87CB44#32 = .ok (.sao 1 7 (-13500)) ∧
  decode 0x290C0000#32 = .ok (.gdi 2 12) ∧
  decode 0x41000000#32 = .ok (.start 2) ∧
  decode 0x59000000#32 = .ok (.rx 2) ∧
  decode 0x84110001#32 = .ok (.route 17 .B) ∧
  decode 0x8C000A00#32 = .ok (.clrbits 0x0A00#16) ∧
  decode 0xA4010000#32 = .ok (.pup 1) ∧
  decode 0xB0010002#32 = .ok (.rft 1 2) ∧
  decode 0xBC000000#32 = .ok .close

/-- R120 (a decision of the spec, D6): a command word whose opcode is unassigned, or names an event, is refused with
`error(FormatError, op)`, and nothing else changes but that the request was taken from the command interface. -/
def Obligations.UnassignedAndEventWordsRefused : Prop :=
  ∀ (s : State) (w : Word) (rest : List Input),
    s.env.agenda = .command w :: rest → (¬ assignedOpcode w.op ∨ eventOpcode w.op) →
    step s = .next { s with
      env := { s.env with agenda := rest }
      responses := .error { cls := .formatError, info := .opcode w.op } :: s.responses }

/-- R15, R16, R117: a word on the command interface that decodes to an operation runs that operation, and an event's
word taken by its loop runs that event, once it is taken from the agenda. The word that `withFetchWord` places runs at
the next step, in the state it was placed in. That requests and events stand in an agenda in the state is the model's
choice (log entry 2). -/
def Obligations.StepRunsTheDecodedInstruction : Prop :=
  ∀ (w : Word) (i : Instr), decode w = .ok i →
    (∀ (s : State) (rest : List Input), s.env.agenda = .command w :: rest → i.isEvent = false →
      step s = exec i { s with env := { s.env with agenda := rest } }) ∧
    (∀ (s : State) (rest : List Input), s.env.agenda = .event w :: rest → i.isEvent = true →
      step s = exec i { s with env := { s.env with agenda := rest } }) ∧
    (∀ s : State, step (s.withFetchWord 32 w.toNat) = exec i s)

/-! ## The frame registers -/

/-- R131, R132 (a), R137, R138: SDO writes that digital output, STTL that TTL output, and neither writes anything else
but the response; the channel of every other card is what it was. -/
def Obligations.SetDigitalAndTtlOutput : Prop :=
  (∀ (s : State) (c n : Nat) (b : Bool) (ch : Channel), s.chan c = some ch → 1 ≤ n → n ≤ 32 →
    ∃ r : SendRegs,
      exec (.sdo c n b) s =
        .next { s.setChan c { ch with sf := r } with responses := .ok :: s.responses } ∧
      (∀ k, r.dout.getLsbD k = if k = n - 1 then b else ch.sf.dout.getLsbD k) ∧
      r.ttl = ch.sf.ttl ∧ r.rows = ch.sf.rows ∧ r.cols = ch.sf.cols ∧ r.ao = ch.sf.ao) ∧
  (∀ (s : State) (c n : Nat) (b : Bool) (ch : Channel), s.chan c = some ch → 1 ≤ n → n ≤ 16 →
    ∃ r : SendRegs,
      exec (.sttl c n b) s =
        .next { s.setChan c { ch with sf := r } with responses := .ok :: s.responses } ∧
      (∀ k, r.ttl.getLsbD k = if k = n - 1 then b else ch.sf.ttl.getLsbD k) ∧
      r.dout = ch.sf.dout ∧ r.rows = ch.sf.rows ∧ r.cols = ch.sf.cols ∧ r.ao = ch.sf.ao) ∧
  (∀ (s : State) (c : Nat) (ch ch' : Channel) (d : Int), s.chan c = some ch →
    (s.setChan c ch').chan d = if d = c then some ch' else s.chan d)

/-- R141: SMD writes the two dimensions together and nothing else but the response. -/
def Obligations.SetMatrixDimensions : Prop :=
  ∀ (s : State) (c rows cols : Nat) (ch : Channel), s.chan c = some ch → rows ≤ 8 → cols ≤ 8 →
    ∃ r : SendRegs,
      exec (.smd c rows cols) s =
        .next { s.setChan c { ch with sf := r } with responses := .ok :: s.responses } ∧
      r.rows.val = rows ∧ r.cols.val = cols ∧
      r.dout = ch.sf.dout ∧ r.ttl = ch.sf.ttl ∧ r.ao = ch.sf.ao

/-- R145, R107, R108: SAO with a legal millivolt value stores the nearest raw value, and 32767 at 13.5 V, where the
clamp acts; no whole number of millivolts is a tie, so no draw is made. Nothing else is written but the response. -/
def Obligations.SetAnalogOutput : Prop :=
  ∀ (s : State) (c n : Nat) (mv : Int) (ch : Channel), s.chan c = some ch → n ≤ 7 → -13500 ≤ mv → mv ≤ 13500 →
    ∃ (q : Raw) (r : SendRegs),
      exec (.sao c n mv) s =
        .next { s.setChan c { ch with sf := r } with responses := .ok :: s.responses } ∧
      ((mv = 13500 ∧ q.toInt = 32767) ∨ absRat ((q.toInt : Rat) - (mv : Rat) / 1000 * 65536 / 27) < 1 / 2) ∧
      r.ao[n]? = some q ∧ (∀ k, k ≠ n → r.ao[k]? = ch.sf.ao[k]?) ∧
      r.dout = ch.sf.dout ∧ r.ttl = ch.sf.ttl ∧ r.rows = ch.sf.rows ∧ r.cols = ch.sf.cols

/-- R133, R139, R143, R147: the getters of outputs answer the register and write nothing. -/
def Obligations.OutputGettersReadTheRegisters : Prop :=
  ∀ (s : State) (c n : Nat) (ch : Channel), s.chan c = some ch →
    (1 ≤ n → n ≤ 32 → exec (.gdo c n) s =
      .next { s with responses := .okValue (.bool (ch.sf.dout.getLsbD (n - 1))) :: s.responses }) ∧
    (1 ≤ n → n ≤ 16 → exec (.gttl c n) s =
      .next { s with responses := .okValue (.bool (ch.sf.ttl.getLsbD (n - 1))) :: s.responses }) ∧
    (exec (.gmd c) s =
      .next { s with responses := .okValue (.dims ch.sf.rows.val ch.sf.cols.val) :: s.responses }) ∧
    (∀ q : Raw, ch.sf.ao[n]? = some q → exec (.gao c n) s =
      .next { s with responses := .okValue (.volts ((q.toInt : Rat) * 27 / 65536)) :: s.responses })

/-- R61 to R65, R101, R150, R151 (c): ENC answers the send image and writes nothing; the image has 32 bytes: the
header, the digital outputs, the TTL outputs, the two dimensions, zeros, the analog outputs little-endian, zeros. The
image determines every register: two register states with equal images are equal. -/
def Obligations.EncodeReturnsTheSendImage : Prop :=
  (∀ (s : State) (c : Nat) (ch : Channel), s.chan c = some ch →
    exec (.enc c) s = .next { s with responses := .okValue (.bytes (imageOf s.cfg ch)) :: s.responses } ∧
    (imageOf s.cfg ch).length = 32 ∧
    (imageOf s.cfg ch)[0]? = some s.cfg.header0 ∧ (imageOf s.cfg ch)[1]? = some s.cfg.header1 ∧
    (∀ n : Nat, 1 ≤ n → n ≤ 32 → ∃ y : Byte, (imageOf s.cfg ch)[2 + (n - 1) / 8]? = some y ∧
      y.getLsbD ((n - 1) % 8) = ch.sf.dout.getLsbD (n - 1)) ∧
    (∀ n : Nat, 1 ≤ n → n ≤ 16 → ∃ y : Byte, (imageOf s.cfg ch)[6 + (n - 1) / 8]? = some y ∧
      y.getLsbD ((n - 1) % 8) = ch.sf.ttl.getLsbD (n - 1)) ∧
    (∃ y : Byte, (imageOf s.cfg ch)[8]? = some y ∧ y.toNat = ch.sf.rows.val) ∧
    (∃ y : Byte, (imageOf s.cfg ch)[9]? = some y ∧ y.toNat = ch.sf.cols.val) ∧
    (∀ (n : Nat) (q : Raw), ch.sf.ao[n]? = some q → ∃ lo hi : Byte, (imageOf s.cfg ch)[12 + 2 * n]? = some lo ∧
      (imageOf s.cfg ch)[13 + 2 * n]? = some hi ∧ q.toNat = lo.toNat + 256 * hi.toNat) ∧
    (∀ k : Nat, k = 10 ∨ k = 11 ∨ (28 ≤ k ∧ k ≤ 31) → (imageOf s.cfg ch)[k]? = some 0)) ∧
  (∀ (h0 h1 : Byte) (r r' : SendRegs), sendImage h0 h1 r = sendImage h0 h1 r' → r = r')

/-- R75: a change of one output changes its own bits of the image and no other: one bit for a digital or TTL output,
byte 8 or byte 9 for a dimension, two bytes for an analog output; and two received buffers that differ only in the bit
of one digital input decode to inputs that differ only in that one. -/
def Obligations.ImageFieldsAreIndependent : Prop :=
  (∀ (h0 h1 : Byte) (r : SendRegs) (o b : Nat),
    let bit := fun (x : SendRegs) => ((sendImage h0 h1 x)[o]?.getD 0).getLsbD b
    (∀ k v, k < 32 → bit { r with dout := setBit r.dout k v } = if (o, b) = (2 + k / 8, k % 8) then v else bit r) ∧
    (∀ k v, k < 16 → bit { r with ttl := setBit r.ttl k v } = if (o, b) = (6 + k / 8, k % 8) then v else bit r) ∧
    (∀ v, o ≠ 8 → bit { r with rows := v } = bit r) ∧
    (∀ v, o ≠ 9 → bit { r with cols := v } = bit r) ∧
    (∀ n q, o ≠ 12 + 2 * n → o ≠ 13 + 2 * n → bit { r with ao := r.ao.setIfInBounds n q } = bit r)) ∧
  (∀ (buf buf' : RxBuffer) (k : Nat), 1 ≤ k → k ≤ 64 →
    (∀ o b, (o, b) ≠ (2 + (k - 1) / 8, (k - 1) % 8) → (rxByte buf o).getLsbD b = (rxByte buf' o).getLsbD b) →
    (∀ n, 1 ≤ n → n ≠ k → getBit buf 2 n = getBit buf' 2 n) ∧
    { decodeFrame buf with di := [] } = { decodeFrame buf' with di := [] } ∧ rxHeader buf = rxHeader buf')

/-- R135, R122 (a): `setDigitalOutputs` sets the outputs it lists and leaves the others; an illegal element leaves
every register unchanged, and the first one is the error's operand. -/
def Obligations.SetDigitalOutputsList : Prop :=
  ∀ (s : State) (c : Int) (l : List Int) (ch : Channel), s.chan c = some ch →
    ((∀ n ∈ l, 1 ≤ n ∧ n ≤ 32) → ∃ r : SendRegs,
      setDigitalOutputs c l s = { s.setChan c { ch with sf := r } with responses := .ok :: s.responses } ∧
      (∀ k : Nat, r.dout.getLsbD k = (ch.sf.dout.getLsbD k || decide ((k : Int) + 1 ∈ l))) ∧
      r.ttl = ch.sf.ttl ∧ r.rows = ch.sf.rows ∧ r.cols = ch.sf.cols ∧ r.ao = ch.sf.ao) ∧
    (∀ (good : List Int) (n : Int) (rest : List Int), l = good ++ n :: rest → (∀ m ∈ good, 1 ≤ m ∧ m ≤ 32) →
      (n < 1 ∨ 32 < n) →
      setDigitalOutputs c l s =
        { s with responses := .error { cls := .rangeError, info := .operand n } :: s.responses })

/-! ## The received frame -/

/-- R66 to R68, R103, R104, R153 to R156: the input getters answer the bit, the signed little-endian value or the
unsigned status word of the last frame; GDIA answers the strictly ascending list of exactly the digital inputs that
are set. None writes anything but its response. -/
def Obligations.InputGettersReadTheFrame : Prop :=
  ∀ (s : State) (c n : Nat) (ch : Channel) (buf : RxBuffer), s.chan c = some ch → ch.rf = some buf →
    (∀ y, 1 ≤ n → n ≤ 64 → buf[2 + (n - 1) / 8]? = some y → exec (.gdi c n) s =
      .next { s with responses := .okValue (.bool (y.getLsbD ((n - 1) % 8))) :: s.responses }) ∧
    (∀ (lo hi : Byte) (q : Raw), n ≤ 15 → buf[16 + 2 * n]? = some lo → buf[17 + 2 * n]? = some hi →
      q.toNat = lo.toNat + 256 * hi.toNat → exec (.gai c n) s =
      .next { s with responses := .okValue (.volts ((q.toInt : Rat) * 27 / 65536)) :: s.responses }) ∧
    (∀ lo hi : Byte, buf[10]? = some lo → buf[11]? = some hi → exec (.gts c) s =
      .next { s with responses := .okValue (.word (lo.toNat + 256 * hi.toNat)) :: s.responses }) ∧
    (∃ l : List Nat,
      exec (.gdia c) s = .next { s with responses := .okValue (.numbers l) :: s.responses } ∧
      l.Pairwise (· < ·) ∧
      (∀ n, n ∈ l ↔ 1 ≤ n ∧ n ≤ 64 ∧ ∃ y, buf[2 + (n - 1) / 8]? = some y ∧ y.getLsbD ((n - 1) % 8) = true))

/-- R152, R182: PARSE stores a payload of exactly 64 bytes whole and touches neither the timestamp nor a counter; any
other length is refused with its length, and only the datagram is gone from the wire. That PARSE takes the datagram
off the wire, that a caller's PARSE writes `RF` against R27 and R285 (b), and that it does so in every run state of
the channel, are the model's choices (log entries 31, 36 and 40). -/
def Obligations.ParseStoresOrRefuses : Prop :=
  ∀ (s : State) (c : Nat) (ch : Channel) (d : Datagram) (rest : List Datagram), s.chan c = some ch →
    s.env.rxWire[c - 1]? = some (d :: rest) →
    let env := { s.env with rxWire := s.env.rxWire.setIfInBounds (c - 1) rest }
    (d.length = 64 → ∃ buf : RxBuffer, buf.toList = d ∧
      exec (.parse c) s =
        .next { s.setChan c { ch with rf := some buf } with env := env, responses := .ok :: s.responses }) ∧
    (d.length ≠ 64 → exec (.parse c) s =
      .next { s with
        env := env
        responses := .error { cls := .formatError, info := .length d.length } :: s.responses })

/-- The getters equal the fields of `decodeFrame`, and the record with the header determines the 64 bytes: what the
spec derives in R158. -/
def Obligations.DecodeFrameDeterminesTheBuffer : Prop :=
  (∀ (ch : Channel) (buf : RxBuffer), ch.rf = some buf →
    (∀ n : Nat, 1 ≤ n → n ≤ 64 → ∃ b, (decodeFrame buf).di[n - 1]? = some b ∧
      digitalInput n ch = .okValue (.bool b)) ∧
    (∀ n : Nat, n ≤ 15 → ∃ q, (decodeFrame buf).ai[n]? = some q ∧
      analogInput n ch = .okValue (.volts (decodeVolt q))) ∧
    ttlStatus ch = .okValue (.word (decodeFrame buf).ttlStatus)) ∧
  (∀ b b' : RxBuffer, rxHeader b = rxHeader b' → decodeFrame b = decodeFrame b' → b = b')

/-! ## Refusals of card operations -/

/-- R271: an operand outside its range is refused with RangeError and its value, and nothing else changes. -/
def Obligations.OutOfRangeOperandsRefused : Prop :=
  ∀ (s : State) (c : Nat) (ch : Channel), s.chan c = some ch →
    let refused := fun (n : Int) => (Host.Outcome.next
      { s with responses := .error { cls := .rangeError, info := .operand n } :: s.responses } :
      Host.Outcome State Fault Refusal)
    (∀ (n : Nat) (b : Bool), n = 0 ∨ 32 < n → exec (.sdo c n b) s = refused n ∧ exec (.gdo c n) s = refused n) ∧
    (∀ (n : Nat) (b : Bool), n = 0 ∨ 16 < n → exec (.sttl c n b) s = refused n ∧ exec (.gttl c n) s = refused n) ∧
    (∀ rows cols : Nat, 8 < rows → exec (.smd c rows cols) s = refused rows) ∧
    (∀ rows cols : Nat, rows ≤ 8 → 8 < cols → exec (.smd c rows cols) s = refused cols) ∧
    (∀ (n : Nat) (mv : Int), 7 < n → exec (.sao c n mv) s = refused n ∧ exec (.gao c n) s = refused n) ∧
    (∀ (n : Nat) (mv : Int), n ≤ 7 → mv < -13500 ∨ 13500 < mv → exec (.sao c n mv) s =
      .next { s with
        responses := .error { cls := .rangeError, info := .voltage ((mv : Rat) / 1000) } :: s.responses }) ∧
    (∀ n : Nat, n = 0 ∨ 64 < n → exec (.gdi c n) s = refused n) ∧
    (∀ n : Nat, 15 < n → exec (.gai c n) s = refused n)

/-- R160 (a decision of the spec, D16): the checks of one codec operation are made in the order listed, and the first
that fails decides the error: index before value, rows before columns, index before frame presence. R159: with a legal
index, a getter of inputs before any frame answers `absent`. -/
def Obligations.FirstFailingCheckDecides : Prop :=
  ∀ (s : State) (c : Nat) (ch : Channel), s.chan c = some ch →
    let answers := fun (r : Response) => (Host.Outcome.next { s with responses := r :: s.responses } :
      Host.Outcome State Fault Refusal)
    (∀ (n : Nat) (mv : Int), 7 < n → mv < -13500 ∨ 13500 < mv →
      exec (.sao c n mv) s = answers (.error (rangeError n))) ∧
    (∀ rows cols : Nat, 8 < rows → 8 < cols → exec (.smd c rows cols) s = answers (.error (rangeError rows))) ∧
    (ch.rf = none →
      (∀ n : Nat, n = 0 ∨ 64 < n → exec (.gdi c n) s = answers (.error (rangeError n))) ∧
      (∀ n : Nat, 15 < n → exec (.gai c n) s = answers (.error (rangeError n))) ∧
      (∀ n : Nat, 1 ≤ n → n ≤ 64 → exec (.gdi c n) s = answers .absent) ∧
      (∀ n : Nat, n ≤ 15 → exec (.gai c n) s = answers .absent) ∧
      exec (.gdia c) s = answers .absent ∧ exec (.gts c) s = answers .absent)

/-- R186, R187, R278: a fleet operation that names a card without a channel answers `absent` before any other check
and writes nothing; a card id of 0, or above 7, has no channel. -/
def Obligations.UnknownCardIsAbsent : Prop :=
  (∀ (i : Instr) (s : State) (c : Nat), i.fleetCard = some c → s.chan c = none →
    exec i s = .next { s with responses := .absent :: s.responses }) ∧
  (∀ (s : State) (c : Int), c < 1 ∨ 7 < c → s.chan c = none)

/-- R279, R186, R313: an operation that answers `absent`, `refused` or an error other than FacadeFailure (of which
R208 says otherwise) has written nothing but that response; of PARSE's FormatError, the datagram is gone from the wire
(the model's choice, log entry 31). -/
def Obligations.ErrorsWriteNothing : Prop :=
  ∀ (i : Instr) (s t : State), exec i s = .next t →
    (t.responses = .absent :: s.responses ∨ t.responses = .refused :: s.responses →
      t = { s with responses := t.responses }) ∧
    (∀ e, t.responses = .error e :: s.responses → e.cls ≠ .facadeFailure →
      t = { s with
        responses := t.responses
        env := { s.env with draws := t.env.draws, rxWire := t.env.rxWire } } ∧
      ((∀ c, i ≠ .parse c) → t.env = s.env))

/-! ## Voltages -/

/-- R109: `decodeVolt` is injective, strictly increasing, and its range lies in [-13.5, 13.5 - LSB], both ends
reached. -/
def Obligations.DecodeVoltLaws : Prop :=
  (∀ r r' : Int, decodeVolt r = decodeVolt r' → r = r') ∧
  (∀ r r' : Int, r < r' → decodeVolt r < decodeVolt r') ∧
  (∀ q : Raw, -27 / 2 ≤ decodeVolt q.toInt ∧ decodeVolt q.toInt ≤ 27 / 2 - 27 / 65536) ∧
  decodeVolt (-32768) = -27 / 2 ∧ decodeVolt 32767 = 27 / 2 - 27 / 65536 ∧
  (∀ r : Int, ∃ k : Int, decodeVolt r = (k : Rat) / 65536)

/-- The laws of `encodeVolt` and `decodeVolt` that the spec derives in R110, for every tie rule and every choice at a
tie. -/
def Obligations.VoltageConversionLaws : Prop :=
  ∀ (tie : RoundTie) (up : Bool),
    (∀ q : Raw, encodeVolt tie up (decodeVolt q.toInt) = q.toInt) ∧
    (∀ v : Volts, -27 / 2 ≤ v → v ≤ 27 / 2 →
      absRat (decodeVolt (encodeVolt tie up v) - v) ≤ 27 / 65536 ∧
      (encodeVolt tie up v = roundRat tie up (rawUnits v) →
        absRat (decodeVolt (encodeVolt tie up v) - v) ≤ 27 / 131072) ∧
      (absRat (decodeVolt (encodeVolt tie up v) - v) = 27 / 65536 ↔ v = 27 / 2)) ∧
    (∀ (up' : Bool) (v v' : Volts), v < v' → encodeVolt tie up v ≤ encodeVolt tie up' v') ∧
    encodeVolt tie up 0 = 0 ∧
    (∀ (up' : Bool) (v : Volts), isTie (rawUnits v) = false →
      encodeVolt tie up v = roundRat tie up (rawUnits v) →
      encodeVolt tie up' (-v) = roundRat tie up' (rawUnits (-v)) →
      encodeVolt tie up' (-v) = -encodeVolt tie up v) ∧
    (∀ v : Volts, 27 / 2 ≤ v → encodeVolt tie up v = 32767) ∧
    (∀ v : Volts, v ≤ -27 / 2 → encodeVolt tie up v = -32768)

/-! ## Channels -/

/-- R171, R172, R180: what `start` and `stop` do to a channel in each run state; neither writes a register, a
timestamp of a frame or a counter; LIVE answers true exactly when a frame was accepted and is at most
`Cfg.commTimeout` old, and writes nothing. That `startedAt` records the time of the start, what the diagnostic of a
failed bind holds, and that the join of `stop` is immediate, are the model's choices (log entries 22, 30 and 21). -/
def Obligations.StartStopAndLive : Prop :=
  ∀ (s : State) (c : Nat) (ch : Channel), s.chan c = some ch →
    (ch.run = .running → exec (.start c) s =
      .next { s with responses := .okValue (.bool true) :: s.responses }) ∧
    (ch.run = .stopped ∨ ch.run = .failed → exec (.start c) s =
      .next { s with responses := .okValue (.bool false) :: s.responses }) ∧
    (∀ rest, ch.run = .created → s.env.binds = true :: rest → exec (.start c) s =
      .next { s.setChan c { ch with run := .running, startedAt := some s.env.now } with
        env := { s.env with binds := rest }
        responses := .okValue (.bool true) :: s.responses }) ∧
    (∀ rest, ch.run = .created → s.env.binds = false :: rest → exec (.start c) s =
      .next { s.setChan c { ch with run := .failed } with
        env := { s.env with binds := rest }
        log := .bindFailure ch.id :: s.log
        responses := .okValue (.bool false) :: s.responses }) ∧
    (ch.run = .running → exec (.stop c) s =
      .next { s.setChan c { ch with run := .stopped } with responses := .ok :: s.responses }) ∧
    (ch.run ≠ .running → exec (.stop c) s = .next { s with responses := .ok :: s.responses }) ∧
    (∃ b : Bool, exec (.live c) s = .next { s with responses := .okValue (.bool b) :: s.responses } ∧
      (b = true ↔ ∃ t, ch.lastRx = some t ∧ s.env.now - t ≤ s.cfg.commTimeout))

/-- R16, R79, R171, R188, R189: STARTALL and STOPALL begin an operation of their caller, which takes one card a turn:
each turn does what START or STOP of that card does, its response withheld, and the last one gives the operation's
response. With no other agent between, `startAll` starts every channel in ascending order, each as `start` would,
going on after a failed bind, which it logs, and answers what each returned; `stopAll` stops every channel. Neither
writes anything else. The binds of the `Created` channels are drawn in ascending order of the cards. The record of an
operation in progress, that the request itself takes no card and an absent card takes a turn, that `startedAt` records
the time of each start, and what the diagnostic of a failed bind holds, are the model's choices (log entries 21, 22
and 30). -/
def Obligations.StartAllAndStopAll : Prop :=
  ∀ s : State,
    exec .startall s =
      .next { s with fleetOps := s.fleetOps ++ [{ kind := .startAll, next := 1, started := [] }] } ∧
    exec .stopall s =
      .next { s with fleetOps := s.fleetOps ++ [{ kind := .stopAll, next := 1, started := [] }] } ∧
    (∀ (k : Nat) (rest : List Input), s.env.agenda = .caller k :: rest →
      let v := { s with env := { s.env with agenda := rest } }
      (s.fleetOps[k]? = none → step s = .next v) ∧
      (∀ op, s.fleetOps[k]? = some op → ∃ (t : State) (r : Response),
        let l := match op.kind, r with
          | .startAll, .okValue (.bool b) => [(op.next, b)]
          | _, _ => []
        step s = .next t ∧
        exec (match op.kind with | .startAll => .start op.next | .stopAll => .stop op.next) v =
          .next { v with fleet := t.fleet, env := t.env, log := t.log, responses := r :: s.responses } ∧
        t = { v with
          fleet := t.fleet
          env := t.env
          log := t.log
          fleetOps := if op.next < 7
            then s.fleetOps.set k { op with next := op.next + 1, started := op.started ++ l }
            else s.fleetOps.eraseIdx k
          responses := if op.next < 7 then s.responses else
            (match op.kind with
              | .startAll => .okValue (.started (op.started ++ l))
              | .stopAll => .ok) :: s.responses })) ∧
    (∀ rest : List Input, s.env.agenda = .command (encode .startall) ::
        (List.replicate 7 (.caller s.fleetOps.length) ++ rest) →
      ∃ (t : State) (l : List (Nat × Bool)), stepN 8 s = .next t ∧
      t = { s with
        fleet := t.fleet
        env := { s.env with agenda := rest, draws := t.env.draws, binds := t.env.binds }
        log := t.log
        responses := .okValue (.started l) :: s.responses } ∧
      l.map Prod.fst = [1, 2, 3, 4, 5, 6, 7].filter (fun c : Nat => (s.chan c).isSome) ∧
      (∀ c : Int, s.chan c = none → t.chan c = none) ∧
      (∀ (c : Nat) (ch : Channel), s.chan c = some ch → ∃ ch', t.chan c = some ch' ∧
        (c, decide (ch'.run = .running)) ∈ l ∧ (ch.run ≠ .created → ch' = ch) ∧
        (ch.run = .created → ch' = { ch with run := .running, startedAt := some s.env.now } ∨
          ch' = { ch with run := .failed })) ∧
      t.log = ([1, 2, 3, 4, 5, 6, 7].filterMap fun c : Nat =>
        (s.chan c).bind fun a => (t.chan c).bind fun b =>
          if a.run = .created ∧ b.run = .failed then some (Diagnostic.bindFailure a.id) else none).reverse ++ s.log ∧
      (let created := [1, 2, 3, 4, 5, 6, 7].filter fun c : Nat => (s.chan c).any fun a => a.run = .created
       7 ≤ s.env.binds.length →
        (created.map fun c : Nat => (t.chan c).any fun b => b.run = .running) = s.env.binds.take created.length ∧
        t.env.binds = s.env.binds.drop created.length ∧ t.env.draws = s.env.draws) ∧
      ((∀ (c : Nat) (ch : Channel), s.chan c = some ch → ch.run = .created) → 7 ≤ s.env.binds.length →
        l.map Prod.snd = s.env.binds.take l.length)) ∧
    (∀ rest : List Input, s.env.agenda = .command (encode .stopall) ::
        (List.replicate 7 (.caller s.fleetOps.length) ++ rest) →
      ∃ t : State, stepN 8 s = .next t ∧
      t = { s with
        fleet := t.fleet
        env := { s.env with agenda := rest }
        responses := .ok :: s.responses } ∧
      (∀ c : Int, s.chan c = none → t.chan c = none) ∧
      (∀ (c : Int) (ch : Channel), s.chan c = some ch →
        t.chan c = some (if ch.run = .running then { ch with run := .stopped } else ch)))

/-- R174, R176, R177, R80: a send tick of a running channel, the first of its scheduled instant and a period after the
tick before, transmits the image of the registers as they are, always 32 bytes, or logs the failure and counts it;
nothing else changes but the record of the tick's time. That record, which ticks the cadence lets through, and what
the diagnostic holds are the model's choices (log entries 22 and 30). -/
def Obligations.SendTick : Prop :=
  ∀ (s : State) (c : Nat) (ch : Channel) (rest : List Bool), s.chan c = some ch → ch.run = .running →
    (∀ t, ch.lastTick = some t → t + s.cfg.sendPeriod ≤ s.env.now ∧
      ∀ t0, ch.startedAt = some t0 → tickSlot s.cfg t0 t < tickSlot s.cfg t0 s.env.now) →
    (imageOf s.cfg ch).length = 32 ∧
    (s.env.sends = true :: rest → exec (.tick c) s =
      .next { s.setChan c { ch with
                lastTx := some (imageOf s.cfg ch), txCount := ch.txCount + 1, lastTick := some s.env.now } with
        env := { s.env with
          sends := rest
          txWire := s.env.txWire.setIfInBounds (c - 1)
            ((s.env.txWire[c - 1]?.getD []) ++ [imageOf s.cfg ch]) } }) ∧
    (s.env.sends = false :: rest → exec (.tick c) s =
      .next { s.setChan c { ch with txErrors := ch.txErrors + 1, lastTick := some s.env.now } with
        env := { s.env with sends := rest }
        log := .sendFailure ch.id :: s.log })

/-- R178, R179: the datagram listed first in flight, if it has 64 bytes, arriving at a running channel replaces the
frame, sets the timestamp and counts; one of any other length is logged and counted as dropped, and refreshes nothing.
That the times of all accepted frames are kept, what the diagnostic holds, and that datagrams in flight are listed are
the model's choices (log entries 12, 30 and 31). -/
def Obligations.ReceiveEvent : Prop :=
  ∀ (s : State) (c : Nat) (ch : Channel) (d : Datagram) (rest : List Datagram), s.chan c = some ch →
    ch.run = .running → s.env.rxWire[c - 1]? = some (d :: rest) →
    let env := { s.env with rxWire := s.env.rxWire.setIfInBounds (c - 1) rest }
    (d.length = 64 → ∃ buf : RxBuffer, buf.toList = d ∧ exec (.rx c) s =
      .next { s.setChan c { ch with
                rf := some buf, lastRx := some s.env.now, rxTimes := s.env.now :: ch.rxTimes
                rxCount := ch.rxCount + 1 } with
        env := env }) ∧
    (d.length ≠ 64 → exec (.rx c) s =
      .next { s.setChan c { ch with rxDropped := ch.rxDropped + 1 } with
        env := env
        log := .malformedLength ch.id d.length :: s.log })

/-- R174, R181, R282, U14: RXWAIT changes nothing; a TICK of a channel that is not Running, of no channel, or of a
channel that has had the tick of this scheduled instant or had one less than a period ago, changes nothing; an RX of a
channel that is not Running takes the datagram off the wire and the block never sees it. That a TICK or RX the rules
do not enable is a step that does so is the model's choice (log entries 11 and 22). -/
def Obligations.EventsThatAreNotEnabled : Prop :=
  ∀ (s : State) (c : Nat),
    exec (.rxwait c) s = .next s ∧
    (s.chan c = none → exec (.tick c) s = .next s ∧ exec (.rx c) s = .next s) ∧
    (∀ ch, s.chan c = some ch → ch.run ≠ .running → exec (.tick c) s = .next s ∧
      (∀ d rest, s.env.rxWire[c - 1]? = some (d :: rest) → exec (.rx c) s =
        .next { s with env := { s.env with rxWire := s.env.rxWire.setIfInBounds (c - 1) rest } })) ∧
    (∀ ch t t0, s.chan c = some ch → ch.lastTick = some t →
      s.env.now < t + s.cfg.sendPeriod ∨
        (ch.startedAt = some t0 ∧ tickSlot s.cfg t0 s.env.now ≤ tickSlot s.cfg t0 t) →
      exec (.tick c) s = .next s)

/-! ## The router -/

/-- R200, R201, R203: LOOKUP of a pin 1..50 answers the table entry of its scheme, and under the constraint on the
tables the two schemes answer differently for pin 17; LOOKUP and ROUTE of any other pin are refused with RangeError.
None of these writes anything else. -/
def Obligations.LookupAndIllegalPins : Prop :=
  ∀ (s : State) (pin : Nat) (sch : Scheme), s.busy = false →
    (s.cfg.valid → ∃ p p' : Pattern, p ≠ p' ∧
      exec (.lookup 17 .A) s = .next { s with responses := .okValue (.pattern p) :: s.responses } ∧
      exec (.lookup 17 .B) s = .next { s with responses := .okValue (.pattern p') :: s.responses }) ∧
    (∀ p, 1 ≤ pin → tableEntry s.cfg pin sch = some p → exec (.lookup pin sch) s =
      .next { s with responses := .okValue (.pattern p) :: s.responses }) ∧
    (pin = 0 ∨ 50 < pin →
      exec (.lookup pin sch) s = .next { s with responses := .error (rangeError pin) :: s.responses } ∧
      exec (.route pin sch) s = .next { s with responses := .error (rangeError pin) :: s.responses })

/-- R204, R205, R78, R312: ROUTE drives exactly the lines of the pattern HIGH, in ascending order, and touches no
other pin; two routes without a clear leave the lines of both HIGH and every other line as it was, and a route made
again changes no line. -/
def Obligations.RouteDrivesTheHighLines : Prop :=
  (∀ (s : State) (pin : Nat) (sch : Scheme) (p : Pattern), s.busy = false → 1 ≤ pin →
    tableEntry s.cfg pin sch = some p → s.writesSucceed (patternLines p).length →
    ∃ t : State, exec (.route pin sch) s = .next t ∧
      (∀ q, t.fp q = if q ∈ linePins s.cfg p then some true else s.fp q) ∧
      t = { s with
        pins := t.pins
        env := { s.env with writes := s.env.writes.drop (patternLines p).length }
        facade := writeCalls s.env.now true (linePins s.cfg p) ++ s.facade
        responses := .ok :: s.responses }) ∧
  (∀ (s : State) (pin pin' : Nat) (sch sch' : Scheme) (p p' : Pattern), s.busy = false →
    s.cfg.linePin.toList.Nodup → 1 ≤ pin → 1 ≤ pin' →
    tableEntry s.cfg pin sch = some p → tableEntry s.cfg pin' sch' = some p' →
    s.writesSucceed ((patternLines p).length + (patternLines p').length) →
    ∃ t u : State, exec (.route pin sch) s = .next t ∧ exec (.route pin' sch') t = .next u ∧
      (∀ i : Fin 16, u.line i = if p.getLsbD i || p'.getLsbD i then some true else s.line i) ∧
      (pin' = pin → sch' = sch → ∀ q, u.fp q = t.fp q))

/-- R206, R207: CLRALL drives all 16 lines LOW, CLRBITS exactly the lines of its pattern, in ascending order; neither
touches another pin, and CLRBITS of 0xFFFF is CLRALL. -/
def Obligations.ClearsDriveTheLinesLow : Prop :=
  (∀ s : State, s.busy = false → s.writesSucceed 16 →
    ∃ t : State, exec .clrall s = .next t ∧ (∀ i, t.line i = some false) ∧
      (∀ q, q ∉ s.cfg.linePin.toList → t.fp q = s.fp q) ∧
      t = { s with
        pins := t.pins
        env := { s.env with writes := s.env.writes.drop 16 }
        facade := writeCalls s.env.now false s.cfg.linePin.toList ++ s.facade
        responses := .ok :: s.responses }) ∧
  (∀ (s : State) (p : Pattern), s.busy = false → s.writesSucceed (patternLines p).length →
    ∃ t : State, exec (.clrbits p) s = .next t ∧
      (∀ q, t.fp q = if q ∈ linePins s.cfg p then some false else s.fp q) ∧
      t = { s with
        pins := t.pins
        env := { s.env with writes := s.env.writes.drop (patternLines p).length }
        facade := writeCalls s.env.now false (linePins s.cfg p) ++ s.facade
        responses := .ok :: s.responses }) ∧
  (∀ s : State, exec (.clrbits 0xFFFF#16) s = exec .clrall s)

/-- R208: a router operation whose write to line `i` fails has made the writes before it, leaves line `i` without a
value, attempts no further write, and answers `error(FacadeFailure, i)`. -/
def Obligations.RouterStopsAtTheFailingLine : Prop :=
  ∀ (s : State) (before after : List (Fin 16)) (i : Fin 16) (rest : List Bool), s.busy = false →
    s.facadeClosed = false → s.env.writes = List.replicate before.length true ++ false :: rest →
    (∀ (pin : Nat) (sch : Scheme) (p : Pattern), 1 ≤ pin → tableEntry s.cfg pin sch = some p →
      patternLines p = before ++ i :: after →
      ∃ t, exec (.route pin sch) s = .next t ∧ StoppedAtLine true before i rest s t) ∧
    (List.finRange 16 = before ++ i :: after →
      ∃ t, exec .clrall s = .next t ∧ StoppedAtLine false before i rest s t) ∧
    (∀ p : Pattern, patternLines p = before ++ i :: after →
      ∃ t, exec (.clrbits p) s = .next t ∧ StoppedAtLine false before i rest s t)

/-- R36, R277, R266: a `digitalWrite` changes its own pin only: the level if it succeeded, no value if it failed; an
`analogRead` changes no pin; after `close()` each of them fails. -/
def Obligations.FacadeCalls : Prop :=
  ∀ (s : State) (pin : FacadePin) (level : Bool),
    (∀ q, (digitalWrite pin level s).2.fp q =
      if q = pin then (if (digitalWrite pin level s).1 = true then some level else none) else s.fp q) ∧
    (∀ q, (analogRead pin s).2.fp q = s.fp q) ∧
    FacadeOnly s (digitalWrite pin level s).2 ∧ FacadeOnly s (analogRead pin s).2 ∧
    (s.pins.wf → (digitalWrite pin level s).2.pins.wf) ∧
    (∀ b rest, s.facadeClosed = false → s.env.writes = b :: rest → (digitalWrite pin level s).1 = b) ∧
    (∀ v rest, s.facadeClosed = false → s.env.reads = v :: rest → (analogRead pin s).1 = v) ∧
    (s.facadeClosed = true → (digitalWrite pin level s).1 = false ∧ (analogRead pin s).1 = none)

/-! ## Requests to the engine -/

/-- R313: a check, a sequence, a router operation or `close()` requested while the engine is busy is refused, and
nothing else changes. That LOOKUP is one of them, and that the refusal comes before every check of an operand, are the
model's reading (log entries 9 and 10). -/
def Obligations.EngineRequestsRefusedWhileBusy : Prop :=
  ∀ (i : Instr) (s : State), s.busy = true → i.engineSide = true →
    exec i s = .next { s with responses := .refused :: s.responses }

/-- R220, R231, R240, R247, R253, R257, R260, R261: an idle engine takes a request: the check begins at the first step
of its pipeline, a PullUpTest and a LogicTest only for an eligible subject; `runSequence` clears the stop request and
answers at once. Nothing else changes. The position a RelayFuseTest and a check of its own begin at, and the transient
values, are the model's choices (log entry 28). -/
def Obligations.CheckRequestsBegin : Prop :=
  ∀ s : State, s.busy = false →
    (∀ (k : Nat) (sub : Subject), s.subj[k]? = some sub →
      exec (.pwr k) s =
        .next { s with busy := true, pos := { phase := .power, idx := k, step := 1 }, work := .idle } ∧
      (∀ v, sub.powerResult = .pass → sub.powerMeasured = some v → absRat v ≤ s.cfg.tol → exec (.pup k) s =
        .next { s with busy := true, pos := { phase := .pullUp, idx := k, step := 1 }, work := .idle }) ∧
      (∀ v, sub.powerResult = .pass → sub.powerMeasured = some v → v ≤ s.cfg.lowThreshold → exec (.lgc k) s =
        .next { s with busy := true, pos := { phase := .logic, idx := k, step := 1 }, work := .idle })) ∧
    exec .sct s =
      .next { s with busy := true, pos := { phase := .sweep, idx := 1, step := 1 }, work := .idle } ∧
    (∀ ka kb : Nat, exec (.rft ka kb) s =
      .next { s with
        busy := true
        pos := { phase := .relayFuse, idx := 0, step := 1 }
        work := { Work.idle with pairA := ka, pairB := kb } }) ∧
    exec .runseq s =
      .next { s with
        busy := true
        stopRequested := false
        pos := { phase := .power, idx := 0, step := 0 }
        work := { Work.idle with inSeq := true }
        responses := .ok :: s.responses }

/-- R262, R275, R261: a PullUpTest or LogicTest of a subject whose PowerTest did not pass, or measured too much, is
skipped with a warning and does nothing else. What the warning holds is the model's choice (log entry 30). For an
index without a subject the answer is the model's free value (log entry 8): `absent`, `refused` or a check failed with
`outOfRange`, never an error, and nothing else changes. -/
def Obligations.IneligibleChecksAreSkipped : Prop :=
  ∀ (s : State) (k : Nat), s.busy = false →
    (∀ sub, s.subj[k]? = some sub →
      (sub.powerResult ≠ .pass ∨ sub.powerMeasured = none ∨
        (∃ v, sub.powerMeasured = some v ∧ s.cfg.tol < absRat v) → exec (.pup k) s =
        .next { s with log := .skipped .pullUp k :: s.log, responses := .okValue .skipped :: s.responses }) ∧
      (sub.powerResult ≠ .pass ∨ sub.powerMeasured = none ∨
        (∃ v, sub.powerMeasured = some v ∧ s.cfg.lowThreshold < v) → exec (.lgc k) s =
        .next { s with log := .skipped .logic k :: s.log, responses := .okValue .skipped :: s.responses })) ∧
    (s.subj[k]? = none → ∃ r : Response,
      (r = .absent ∨ r = .refused ∨
        r = .okValue (.check { measured := .none, pass := false, reason := .outOfRange })) ∧
      exec (.pwr k) s = .next { s with responses := r :: s.responses } ∧
      exec (.pup k) s = .next { s with responses := r :: s.responses } ∧
      exec (.lgc k) s = .next { s with responses := r :: s.responses })

/-- R264, R266: REQSTOP sets the stop request at any time; CLOSE of an idle engine forwards the facade's `close()`.
Neither writes anything else. That CLOSE answers `ok`, also when the facade is closed already, is the model's choice
(log entry 37). -/
def Obligations.StopRequestAndClose : Prop :=
  ∀ s : State,
    exec .reqstop s = .next { s with stopRequested := true, responses := .ok :: s.responses } ∧
    (s.busy = false → exec .close s =
      .next { s with
        facadeClosed := true
        facade := .close s.env.now :: s.facade
        responses := .ok :: s.responses })

/-! ## Checks, from request to response -/

/-- R231, R236, R229, R223: PowerTest of a subject without a stimulus, run by the machine from the request to the
response: one measurement of the pin's pair channel, its route HIGH and settled, times the scale factor, compared
inclusively; the subject's two fields written, every control line LOW, the engine idle, and no card, result of another
check or other subject changed; a `powerInput` that is neither special nor a stimulus is logged. How many turns the
worker takes, that it keeps no transient values, that facade calls are listed newest first, and what the diagnostic
holds, are the model's choices (log entries 21, 28, 29 and 30). -/
def Obligations.PowerTestWithoutStimulus : Prop :=
  ∀ (s : State) (k pin : Nat) (sub : Subject) (p : Pattern) (v : Volts) (vs : List (Option Volts)) (t0 : Time)
    (rest : List Input),
    s.busy = false → k < 128 → s.subj[k]? = some sub → sub.input.pin = pin → 1 ≤ pin →
    tableEntry s.cfg pin .A = some p → namesNoStimulus sub.input.powerInput →
    s.writesSucceed (16 + (patternLines p).length + 16) → s.env.reads = some v :: vs →
    s.env.now + s.cfg.settle ≤ t0 →
    s.env.agenda = .command (encode (.pwr k)) ::
      (List.replicate 3 .worker ++ .clock t0 :: (List.replicate 5 .worker ++ rest)) →
    let m := s.cfg.vScale * v
    let good := decide (absRat (m - sub.input.powerExpected) ≤ s.cfg.tol)
    let later := max s.env.now t0
    ∃ t : State, stepN 10 s = .next t ∧
      t.responses = .okValue (.check
        { measured := .volts m, pass := good, reason := if good then .ok else .mismatch }) :: s.responses ∧
      t.subj = s.subj.set k { sub with powerMeasured := some m, powerResult := if good then .pass else .fail } ∧
      (∀ i, t.line i = some false) ∧ (∀ q, q ∉ s.cfg.linePin.toList → t.fp q = s.fp q) ∧
      t.facade = writeCalls later false s.cfg.linePin.toList ++
        .ar later (measPin s.cfg (pairOfPin s.cfg pin)) (some v) ::
        (writeCalls s.env.now true (linePins s.cfg p) ++ writeCalls s.env.now false s.cfg.linePin.toList ++ s.facade) ∧
      t.log = (if sub.input.powerInput = [] ∨ sub.input.powerInput = ['n', 'o', 'n', 'e'] then s.log
        else .unparsedDirective .power k :: s.log) ∧
      t.busy = false ∧ t.pos = .idle ∧ t.work = .idle ∧ t.fleet = s.fleet ∧ t.stopRequested = s.stopRequested ∧
      t.env.reads = vs ∧ t.env.agenda = rest

/-- R240, R241, R114, R226: PullUpTest of an eligible subject whose `pullupInput` is `G`, when the pin reads near zero
first: the verdict compares the pulled-up voltage, the pull-up line ends LOW on both verdicts, and the subject's two
fields are written. The pin, routed and settled, is read before its pull-up line is driven HIGH and again, settled,
after. How many turns the worker takes, and that facade calls are listed newest first, are the model's choices (log
entries 21 and 29). -/
def Obligations.PullUpTestWithG : Prop :=
  ∀ (s : State) (k pin : Nat) (sub : Subject) (p : Pattern) (pv v0 v1 : Volts) (vs : List (Option Volts))
    (t0 t1 : Time) (rest : List Input),
    s.busy = false → k < 128 → s.subj[k]? = some sub → sub.input.pin = pin → 1 ≤ pin →
    sub.powerResult = .pass → sub.powerMeasured = some pv → absRat pv ≤ s.cfg.tol →
    tableEntry s.cfg pin .A = some p → sub.input.pullupInput = ['G'] →
    s.writesSucceed (16 + (patternLines p).length + 2 + 16) →
    s.env.reads = some v0 :: some v1 :: vs → absRat (s.cfg.vScale * v0) ≤ s.cfg.tol →
    s.env.now + s.cfg.settle ≤ t0 → t0 + s.cfg.settle ≤ t1 →
    let m := s.cfg.vScale * v1
    let good := decide (absRat (m - sub.input.pullupExpected) ≤ s.cfg.tol)
    let later := max s.env.now t0
    let last := max later t1
    s.env.agenda = .command (encode (.pup k)) :: .worker :: .clock t0 :: .worker :: .worker :: .clock t1 ::
      (List.replicate (if good then 5 else 4) .worker ++ rest) →
    ∃ t : State, stepN (if good then 11 else 10) s = .next t ∧
      t.responses = .okValue (.check
        { measured := .volts m, pass := good, reason := if good then .ok else .mismatch }) :: s.responses ∧
      t.subj = s.subj.set k { sub with pullupMeasured := some m, pullupResult := if good then .pass else .fail } ∧
      t.facade = writeCalls last false s.cfg.linePin.toList ++
        .dw last (pullupPin s.cfg (pairOfPin s.cfg pin)) false true ::
        .ar last (measPin s.cfg (pairOfPin s.cfg pin)) (some v1) ::
        .dw later (pullupPin s.cfg (pairOfPin s.cfg pin)) true true ::
        .ar later (measPin s.cfg (pairOfPin s.cfg pin)) (some v0) ::
        (writeCalls s.env.now true (linePins s.cfg p) ++ writeCalls s.env.now false s.cfg.linePin.toList ++ s.facade) ∧
      t.log = s.log ∧
      (∀ i, t.line i = some false) ∧ t.pullup (pairOfPin s.cfg pin) = some false ∧
      t.busy = false ∧ t.pos = .idle ∧ t.fleet = s.fleet ∧ t.env.agenda = rest

/-- R247, R248, R249, R227: LogicTest of an eligible subject with an eligible second subject: the verdict compares the
digital input of the last accepted frame with the expected bit, after both routes and both pairs' relays were driven
HIGH and had settled; the relays and every control line end LOW; only `logicResult` is written. How many turns the
worker takes, and that facade calls are listed newest first, are the model's choices (log entries 21 and 29). -/
def Obligations.LogicTestReadsTheInput : Prop :=
  ∀ (s : State) (k pin pin' : Nat) (sub other : Subject) (p p' : Pattern) (e : LogicExpectation) (ch : Channel)
    (buf : RxBuffer) (y : Byte) (pv qv : Volts) (t0 : Time) (rest : List Input),
    s.busy = false → k < 128 → s.subj[k]? = some sub → sub.input.pin = pin → 1 ≤ pin →
    sub.powerResult = .pass → sub.powerMeasured = some pv → pv ≤ s.cfg.lowThreshold →
    sub.input.logicPinInput ≠ [] →
    s.subj.find? (fun x => decide (x.input.pinId = sub.input.logicPinInput)) = some other →
    other.powerResult = .pass → other.powerMeasured = some qv → absRat qv ≤ s.cfg.tol →
    other.input.pin = pin' → 1 ≤ pin' →
    tableEntry s.cfg pin .A = some p → tableEntry s.cfg pin' .B = some p' →
    parseLogicExpected sub.input.logicExpected = some e → s.chan e.card = some ch → ch.rf = some buf →
    1 ≤ e.number → e.number ≤ 64 → buf[2 + (e.number - 1) / 8]? = some y →
    s.writesSucceed (16 + (patternLines p).length + (patternLines p').length + 4 + 4 + 16) →
    s.env.now + s.cfg.settle ≤ t0 →
    s.env.agenda = .command (encode (.lgc k)) ::
      (List.replicate 5 .worker ++ .clock t0 :: (List.replicate 4 .worker ++ rest)) →
    let d := y.getLsbD ((e.number - 1) % 8)
    let good := decide (d = e.bit)
    let later := max s.env.now t0
    let relays := relayPins s.cfg (pairOfPin s.cfg pin) ++ relayPins s.cfg (pairOfPin s.cfg pin')
    ∃ t : State, stepN 11 s = .next t ∧
      t.responses = .okValue (.check
        { measured := .bit d, pass := good, reason := if good then .ok else .mismatch }) :: s.responses ∧
      t.subj = s.subj.set k { sub with logicResult := if good then .pass else .fail } ∧
      t.facade = writeCalls later false s.cfg.linePin.toList ++ writeCalls later false relays ++
        writeCalls s.env.now true relays ++ writeCalls s.env.now true (linePins s.cfg p') ++
        writeCalls s.env.now true (linePins s.cfg p) ++ writeCalls s.env.now false s.cfg.linePin.toList ++ s.facade ∧
      t.log = s.log ∧
      (∀ i, t.line i = some false) ∧
      (∀ l ∈ t.relay (pairOfPin s.cfg pin) ++ t.relay (pairOfPin s.cfg pin'), l = some false) ∧
      t.busy = false ∧ t.pos = .idle ∧ t.fleet = s.fleet ∧ t.env.reads = s.env.reads ∧ t.env.agenda = rest

/-- R257, R190: RelayFuseTest stops every channel, reads both pairs' channels after one settle delay, their relays and
the shared pull-up HIGH, passes exactly when they agree within the tolerance, and ends with the shared pull-up, both
relay pairs and every control line LOW. No subject changes. How many turns the worker takes (the seven cards are
stopped in seven), and that facade calls are listed newest first, are the model's choices (log entries 21 and 29). -/
def Obligations.RelayFuseTestCompares : Prop :=
  ∀ (s : State) (ka kb : Nat) (va vb : Volts) (vs : List (Option Volts)) (t0 : Time) (rest : List Input),
    s.busy = false → ka < 128 → kb < 128 → s.writesSucceed (5 + 5 + 16) →
    s.env.reads = some va :: some vb :: vs → s.env.now + s.cfg.settle ≤ t0 →
    s.env.agenda = .command (encode (.rft ka kb)) ::
      (List.replicate 9 .worker ++ .clock t0 :: (List.replicate 4 .worker ++ rest)) →
    let ma := s.cfg.vScale * va
    let mb := s.cfg.vScale * vb
    let good := decide (absRat (ma - mb) ≤ s.cfg.tol)
    let later := max s.env.now t0
    let shared := sharedPullupPin s.cfg ka kb
    let relays := relayPins s.cfg ka ++ relayPins s.cfg kb
    ∃ t : State, stepN 15 s = .next t ∧
      t.responses = .okValue (.check
        { measured := .both ma mb, pass := good, reason := if good then .ok else .mismatch }) :: s.responses ∧
      (∀ i, t.line i = some false) ∧ (∀ l ∈ t.relay ka ++ t.relay kb, l = some false) ∧
      t.sharedPullup ka kb = some false ∧
      t.facade = writeCalls later false s.cfg.linePin.toList ++ writeCalls later false (shared :: relays) ++
        .ar later (measPin s.cfg kb) (some vb) :: .ar later (measPin s.cfg ka) (some va) ::
        (writeCalls s.env.now true (relays ++ [shared]) ++ s.facade) ∧
      t.log = s.log ∧
      (∀ (c : Int) (ch : Channel), s.chan c = some ch →
        t.chan c = some (if ch.run = .running then { ch with run := .stopped } else ch)) ∧
      t.subj = s.subj ∧ t.busy = false ∧ t.pos = .idle ∧ t.env.reads = vs ∧ t.env.agenda = rest

/-- R253 S4, R254, R255: the inner step of the sweep, the settle delay over: the inner pin's reading is recorded with
both pins exactly when it is not what it should be (the corrected own voltage for the outer pin itself, near zero for
every other pin), and the sweep goes on to the next inner pin, or to S5 after pin 50. That a step with a wait in it is
two turns of the worker is the model's choice (log entry 21). -/
def Obligations.SweepRecordsWrongPins : Prop :=
  ∀ (s : State) (v t0 : Rat) (vs : List (Option Volts)),
    s.busy = true → s.pos.phase = .sweep → s.pos.step = 4 → s.work.sub = 1 → s.work.wake = some t0 →
    t0 ≤ s.env.now → s.facadeClosed = false → s.env.reads = some v :: vs →
    let q := s.work.inner
    let m := s.cfg.vScale * v
    let wrong := if q = s.pos.idx then s.cfg.tol < absRat (m - s.work.vexp) else s.cfg.tol < absRat m
    let t := workerStep s
    (wrong → t.work.shorts = s.work.shorts ++ [{ outer := s.pos.idx, inner := some q, voltage := some m }]) ∧
    (¬ wrong → t.work.shorts = s.work.shorts) ∧
    (q < 50 → t.pos = s.pos ∧ t.work.inner = q + 1 ∧ t.work.sub = 0) ∧
    (50 ≤ q → t.pos = { s.pos with step := 5 }) ∧
    t.pins = s.pins ∧ t.subj = s.subj ∧ t.fleet = s.fleet ∧ t.busy = true ∧ t.responses = s.responses ∧
    t.facade = .ar s.env.now (measPin s.cfg (pairOfPin s.cfg q)) (some v) :: s.facade

/-- R220, R221, R222, R223, R225, R230, R231: PowerTest of a subject with a stimulus, turn by turn from P5 to P14, and
the return P16 of every check of its own: the pin must read near zero first; the stimulus is applied, verified,
measured after the settle delay, and reverted with a verification; the voltage measured last is compared. Each failure
goes to the cleanup step P15 with its reason, and a failed verification or measurement reverts the stimulus first,
without one. P16 writes the subject's two fields and gives the response, whatever the verdict. That a step with a wait
or with two operations of a card in it is more than one turn, that a failed measurement reverts too, and the transient
values are the model's choices (log entries 21, 13 and 28). -/
def Obligations.PowerTestStimulusBranch : Prop :=
  ∀ (s : State) (sub : Subject) (d : Stimulus), s.ready → s.pos.phase = .power → s.subj[s.pos.idx]? = some sub →
    let u := s.awake
    let w := u.work
    let q := measPin s.cfg (pairOfPin s.cfg sub.input.pin)
    let exit := fun (t : State) (why : Reason) => t.atStep 15 { w with pass := false, reason := why }
    (s.pos.step = 5 → parseStimulus sub.input.powerInput = some d →
      workerStep s = u.atStep 6 { w with spec := some d }) ∧
    (s.pos.step = 6 → w.spec = some d → workerStep s = u.atStep 7 w) ∧
    (∀ v, s.pos.step = 7 → w.measured = some v →
      workerStep s = if absRat v ≤ s.cfg.tol then u.atStep 8 w else exit u .notNearZero) ∧
    (∀ t why, s.pos.step = 8 → w.spec = some d → applyStimulus d d.value u = (some why, t) →
      workerStep s = exit t why) ∧
    (∀ t, s.pos.step = 8 → w.spec = some d → applyStimulus d d.value u = (none, t) →
      workerStep s = t.atStep 9 { w with t0 := s.env.now }) ∧
    (s.pos.step = 9 → w.sub = 0 →
      workerStep s = { u with work := { w with deadline := s.env.now + s.cfg.verifyWait, sub := 1 } }) ∧
    (s.pos.step = 9 → w.sub = 1 → w.spec = some d →
      (verifyPoll d d.value u = none → workerStep s = u) ∧
      (verifyPoll d d.value u = some true → workerStep s = u.atStep 10 w) ∧
      (verifyPoll d d.value u = some false → workerStep s = { u with work := { w with sub := 2 } })) ∧
    (s.pos.step = 9 → 2 ≤ w.sub → w.spec = some d → workerStep s = exit (applyStimulus d 0 u).2 .verifyFailed) ∧
    (s.pos.step = 10 →
      workerStep s = u.atStep 11 { w with wake := some (s.env.now + s.cfg.settle) }) ∧
    (s.pos.step = 11 → w.sub = 0 → (analogRead q u).1 = none →
      workerStep s = { (analogRead q u).2 with work := { w with sub := 1 } }) ∧
    (∀ v, s.pos.step = 11 → w.sub = 0 → (analogRead q u).1 = some v →
      workerStep s = (analogRead q u).2.atStep 12 { w with measured := some (s.cfg.vScale * v) }) ∧
    (s.pos.step = 11 → 1 ≤ w.sub → w.spec = some d → workerStep s = exit (applyStimulus d 0 u).2 .facadeFailure) ∧
    (∀ t why, s.pos.step = 12 → w.sub = 0 → w.spec = some d → applyStimulus d 0 u = (some why, t) →
      workerStep s = t.atStep 13 { w with gate := false }) ∧
    (∀ t, s.pos.step = 12 → w.sub = 0 → w.spec = some d → applyStimulus d 0 u = (none, t) →
      workerStep s = { t with work := { w with t0 := s.env.now, sub := 1 } }) ∧
    (s.pos.step = 12 → w.sub = 1 → w.spec = some d →
      workerStep s = { u with work := { w with deadline := s.env.now + s.cfg.verifyWait, sub := 2 } }) ∧
    (s.pos.step = 12 → 2 ≤ w.sub → w.spec = some d →
      (verifyPoll d 0 u = none → workerStep s = u) ∧
      (∀ b, verifyPoll d 0 u = some b → workerStep s = u.atStep 13 { w with gate := b })) ∧
    (s.pos.step = 13 → workerStep s = if w.gate then u.atStep 14 w else exit u .revertFailed) ∧
    (∀ v, s.pos.step = 14 → w.measured = some v → workerStep s =
      if absRat (v - sub.input.powerExpected) ≤ s.cfg.tol then u.atStep 15 { w with pass := true, reason := .ok }
      else exit u .mismatch) ∧
    (s.pos.step = 16 → w.inSeq = false → workerStep s = { s with
      subj := s.subj.set s.pos.idx
        { sub with powerMeasured := w.measured, powerResult := if w.pass then .pass else .fail }
      busy := false
      pos := .idle
      work := .idle
      responses := .okValue (.check { measured := .ofVolts w.measured, pass := w.pass, reason := w.reason }) ::
        s.responses })

/-- R220, R222, R224, R225, R226, R230, R240, R242, R245, R270: PullUpTest, turn by turn: the near-zero precondition
at U2, the mismatch at U5, `G` at U6, the directive at U7, where a string that does not match is logged, and the DO
branch U8 to U11, whose two restorations run whether or not U9 and U10 succeeded and whose verdict needs both. Each
exit from U5 to U8 lowers the pull-up line first. U13, the return of a check of its own, writes the subject's two
fields and gives the response, whatever the verdict. That a step with a wait in it, or with several operations as U11,
is more than one turn, the reasons when a restoring write fails, that an AO directive is not logged, what the
diagnostic holds, and the transient values are the model's choices (log entries 21, 15, 38, 30 and 28). -/
def Obligations.PullUpTestDirectiveBranch : Prop :=
  ∀ (s : State) (sub : Subject) (d : Stimulus), s.ready → s.pos.phase = .pullUp → s.subj[s.pos.idx]? = some sub →
    let u := s.awake
    let w := u.work
    let q := measPin s.cfg (pairOfPin s.cfg sub.input.pin)
    let lower := fun (t : State) => digitalWrite (pullupPin s.cfg (pairOfPin s.cfg sub.input.pin)) false t
    let exit := fun (t : State) (why : Reason) => t.atStep 12 { w with pass := false, reason := why }
    (∀ v, s.pos.step = 2 → (analogRead q u).1 = some v →
      let m := s.cfg.vScale * v
      workerStep s = if absRat m ≤ s.cfg.tol then (analogRead q u).2.atStep 3 { w with measured := some m }
        else (analogRead q u).2.atStep 12
          { w with measured := some m, pass := false, reason := .notNearZero }) ∧
    (∀ v, s.pos.step = 5 → w.measured = some v →
      workerStep s = if absRat (v - sub.input.pullupExpected) ≤ s.cfg.tol then u.atStep 6 w
        else exit (lower u).2 .mismatch) ∧
    (s.pos.step = 6 → sub.input.pullupInput = ['G'] → workerStep s =
      if (lower u).1 then (lower u).2.atStep 12 { w with pass := true, reason := .ok }
      else exit (lower u).2 .facadeFailure) ∧
    (s.pos.step = 6 → sub.input.pullupInput ≠ ['G'] → workerStep s = u.atStep 7 w) ∧
    (s.pos.step = 7 → parseStimulus sub.input.pullupInput = none →
      workerStep s = (exit (lower u).2 .badDirective).emit (.unparsedDirective .pullUp s.pos.idx)) ∧
    (s.pos.step = 7 → parseStimulus sub.input.pullupInput = some d →
      workerStep s = if d.kind = .DO then u.atStep 8 { w with spec := some d } else exit (lower u).2 .badDirective) ∧
    (∀ t why, s.pos.step = 8 → w.spec = some d → applyStimulus d d.value u = (some why, t) →
      workerStep s = exit (lower t).2 why) ∧
    (∀ t, s.pos.step = 8 → w.spec = some d → applyStimulus d d.value u = (none, t) →
      workerStep s = t.atStep 9 { w with t0 := s.env.now }) ∧
    (s.pos.step = 9 → w.sub = 0 →
      workerStep s = { u with work := { w with deadline := s.env.now + s.cfg.verifyWait, sub := 1 } }) ∧
    (s.pos.step = 9 → w.sub ≠ 0 → w.spec = some d →
      (verifyPoll d d.value u = none → workerStep s = u) ∧
      (verifyPoll d d.value u = some true → workerStep s = u.atStep 10 { w with gate := true, reason := .ok }) ∧
      (verifyPoll d d.value u = some false →
        workerStep s = u.atStep 11 { w with gate := false, reason := .verifyFailed })) ∧
    (s.pos.step = 10 → w.sub = 0 →
      workerStep s = { u with work := { w with sub := 1, wake := some (s.env.now + s.cfg.settle) } }) ∧
    (s.pos.step = 10 → w.sub ≠ 0 → (analogRead q u).1 = none →
      workerStep s = (analogRead q u).2.atStep 11 { w with gate := false, reason := .facadeFailure }) ∧
    (∀ v, s.pos.step = 10 → w.sub ≠ 0 → (analogRead q u).1 = some v →
      workerStep s = (analogRead q u).2.atStep 11
        (if absRat (s.cfg.vScale * v) ≤ s.cfg.tol then { w with gate := true, reason := .ok }
          else { w with gate := false, reason := .pullDownMismatch })) ∧
    (s.pos.step = 11 → w.sub = 0 → w.spec = some d →
      workerStep s = { (lower u).2 with work := { w with restored := (lower u).1, sub := 1 } }) ∧
    (∀ t why, s.pos.step = 11 → w.sub = 1 → w.spec = some d → applyStimulus d 0 u = (some why, t) →
      workerStep s = t.atStep 12
        { w with pass := false, reason := if w.gate then .revertFailed else w.reason }) ∧
    (∀ t, s.pos.step = 11 → w.sub = 1 → w.spec = some d → applyStimulus d 0 u = (none, t) →
      workerStep s = { t with work := { w with t0 := s.env.now, sub := 2 } }) ∧
    (s.pos.step = 11 → w.sub = 2 → w.spec = some d →
      workerStep s = { u with work := { w with deadline := s.env.now + s.cfg.verifyWait, sub := 3 } }) ∧
    (s.pos.step = 11 → 3 ≤ w.sub → w.spec = some d →
      (verifyPoll d 0 u = none → workerStep s = u) ∧
      (∀ b, verifyPoll d 0 u = some b → workerStep s = u.atStep 12 { w with
        pass := w.gate && (w.restored && b)
        reason := if w.gate then (if w.restored && b then .ok else .revertFailed) else w.reason })) ∧
    (s.pos.step = 13 → w.inSeq = false → workerStep s = { s with
      subj := s.subj.set s.pos.idx
        { sub with pullupMeasured := w.measured, pullupResult := if w.pass then .pass else .fail }
      busy := false
      pos := .idle
      work := .idle
      responses := .okValue (.check { measured := .ofVolts w.measured, pass := w.pass, reason := w.reason }) ::
        s.responses })

/-- R230, R247, R248, R249, R159, R270: the exits of LogicTest: `wrongLogicPinInput` for a name that is empty or names
no subject, and for a second subject whose PowerTest did not pass near zero; `badDirective` for an expectation that
does not parse, which is logged; `cardAbsent` for a card without a channel or a frame, `outOfRange` for an illegal
input number. Each goes to the cleanup step G8, and the last step G9 writes the result and, of a check of its own,
gives the response. What the diagnostic holds, and the transient values, are the model's choices (log entries 30 and
28). -/
def Obligations.LogicTestFailingExits : Prop :=
  ∀ (s : State) (sub : Subject), s.ready → s.pos.phase = .logic → s.subj[s.pos.idx]? = some sub →
    let u := s.awake
    let w := u.work
    let exit := fun (why : Reason) => u.atStep 8 { w with pass := false, reason := why }
    (s.pos.step = 2 → sub.input.logicPinInput = [] ∨ (∀ x ∈ s.subj, x.input.pinId ≠ sub.input.logicPinInput) →
      workerStep s = exit .wrongLogicPinInput) ∧
    (∀ other, s.pos.step = 2 → sub.input.logicPinInput ≠ [] →
      s.subj.find? (fun x => decide (x.input.pinId = sub.input.logicPinInput)) = some other →
      (other.powerResult ≠ .pass ∨ other.powerMeasured = none ∨
        (∃ v, other.powerMeasured = some v ∧ s.cfg.tol < absRat v) → workerStep s = exit .wrongLogicPinInput) ∧
      (∀ v, other.powerResult = .pass → other.powerMeasured = some v → absRat v ≤ s.cfg.tol →
        workerStep s = u.atStep 3 { w with secondPin := other.input.pin })) ∧
    (s.pos.step = 6 → parseLogicExpected sub.input.logicExpected = none →
      workerStep s = (exit .badDirective).emit (.unparsedDirective .logic s.pos.idx)) ∧
    (∀ e, s.pos.step = 7 → parseLogicExpected sub.input.logicExpected = some e →
      (s.chan e.card = none → workerStep s = exit .cardAbsent) ∧
      (∀ ch, s.chan e.card = some ch → e.number = 0 ∨ 64 < e.number → workerStep s = exit .outOfRange) ∧
      (∀ ch, s.chan e.card = some ch → 1 ≤ e.number → e.number ≤ 64 → ch.rf = none →
        workerStep s = exit .cardAbsent)) ∧
    (s.pos.step = 9 → w.inSeq = false → workerStep s = { s with
      subj := s.subj.set s.pos.idx { sub with logicResult := if w.pass then .pass else .fail }
      busy := false
      pos := .idle
      work := .idle
      responses := .okValue (.check { measured := .ofBit w.bitRead, pass := w.pass, reason := w.reason }) ::
        s.responses })

/-- R230, R257, R266, R280, R281: an error inside a check becomes a reason and never an error response: a facade call
that fails sends the check to its cleanup step with `facadeFailure`, an illegal pin with `outOfRange`, unless a facade
call before it failed. The worker gives no response but the result of a check, as F7, the return of RelayFuseTest,
does, whatever the verdict, writing no subject. That the pull-up line is lowered although its own write failed, that
RelayFuseTest drops a first reading whose second fails and then answers no measured value, and the transient values,
are the model's choices (log entries 14, 16 and 28). -/
def Obligations.ErrorsInsideACheckBecomeReasons : Prop :=
  (∀ s : State, (workerStep s).responses = s.responses ∨
    ∃ r, (workerStep s).responses = .okValue (.check r) :: s.responses) ∧
  (∀ (s : State) (sub : Subject), s.ready → s.subj[s.pos.idx]? = some sub →
    let u := s.awake
    let w := u.work
    let k := pairOfPin s.cfg sub.input.pin
    let q := measPin s.cfg k
    let lower := fun (t : State) => digitalWrite (pullupPin s.cfg k) false t
    let exit := fun (t : State) (n : Nat) (why : Reason) => t.atStep n { w with pass := false, reason := why }
    let legal := 1 ≤ sub.input.pin ∧ sub.input.pin ≤ 50
    (s.pos.phase = .power →
      (∀ e t, s.pos.step = 1 → clearAllLines u = (some e, t) → workerStep s = exit t 15 .facadeFailure) ∧
      (∀ e t, s.pos.step = 2 → legal → routePin sub.input.pin .A u = (some e, t) →
        workerStep s = exit t 15 .facadeFailure) ∧
      (s.pos.step = 2 → ¬ legal → workerStep s = exit u 15 .outOfRange) ∧
      (s.pos.step = 4 → (analogRead q u).1 = none → workerStep s = exit (analogRead q u).2 15 .facadeFailure)) ∧
    (s.pos.phase = .pullUp →
      (∀ e t, s.pos.step = 1 → clearAllLines u = (some e, t) → workerStep s = exit t 12 .facadeFailure) ∧
      (∀ e t, s.pos.step = 1 → legal → routeClean sub.input.pin .A u = (some e, t) →
        workerStep s = exit t 12 .facadeFailure) ∧
      (∀ t, s.pos.step = 1 → ¬ legal → clearAllLines u = (none, t) → workerStep s = exit t 12 .outOfRange) ∧
      (s.pos.step = 2 → (analogRead q u).1 = none → workerStep s = exit (analogRead q u).2 12 .facadeFailure) ∧
      (∀ t, s.pos.step = 3 → digitalWrite (pullupPin s.cfg k) true u = (false, t) →
        workerStep s = exit (lower t).2 12 .facadeFailure) ∧
      (s.pos.step = 4 → (analogRead q u).1 = none →
        workerStep s = exit (lower (analogRead q u).2).2 12 .facadeFailure)) ∧
    (s.pos.phase = .logic →
      (∀ e t, s.pos.step = 1 → clearAllLines u = (some e, t) → workerStep s = exit t 8 .facadeFailure) ∧
      (∀ e t, s.pos.step = 1 → legal → routeClean sub.input.pin .A u = (some e, t) →
        workerStep s = exit t 8 .facadeFailure) ∧
      (∀ t, s.pos.step = 1 → ¬ legal → clearAllLines u = (none, t) → workerStep s = exit t 8 .outOfRange) ∧
      (∀ e t, s.pos.step = 3 → 1 ≤ w.secondPin → w.secondPin ≤ 50 → routePin w.secondPin .B u = (some e, t) →
        workerStep s = exit t 8 .facadeFailure) ∧
      (s.pos.step = 3 → w.secondPin < 1 ∨ 50 < w.secondPin → workerStep s = exit u 8 .outOfRange) ∧
      (∀ t, s.pos.step = 4 → drivePins true (relayPins s.cfg k) u = (false, t) →
        workerStep s = t.atStep 8 { w with relays := 1, pass := false, reason := .facadeFailure }) ∧
      (∀ t t', s.pos.step = 4 → drivePins true (relayPins s.cfg k) u = (true, t) →
        drivePins true (relayPins s.cfg (pairOfPin s.cfg w.secondPin)) t = (false, t') →
        workerStep s = t'.atStep 8 { w with relays := 2, pass := false, reason := .facadeFailure }))) ∧
  (∀ s : State, s.ready → s.pos.phase = .relayFuse →
    let u := s.awake
    let w := u.work
    let exit := fun (t : State) => t.atStep 6 { w with pass := false, reason := .facadeFailure }
    let a := measPin s.cfg w.pairA
    let b := measPin s.cfg w.pairB
    (∀ t, s.pos.step = 2 →
      drivePins true (relayPins s.cfg w.pairA ++ relayPins s.cfg w.pairB ++
        [sharedPullupPin s.cfg w.pairA w.pairB]) u = (false, t) → workerStep s = exit t) ∧
    (s.pos.step = 4 → (analogRead a u).1 = none → workerStep s = exit (analogRead a u).2) ∧
    (∀ v, s.pos.step = 4 → (analogRead a u).1 = some v → (analogRead b (analogRead a u).2).1 = none →
      workerStep s = exit (analogRead b (analogRead a u).2).2) ∧
    (s.pos.step = 7 → w.inSeq = false → workerStep s = { s with
      busy := false
      pos := .idle
      work := .idle
      responses := .okValue (.check { measured := .ofBoth w.both, pass := w.pass, reason := w.reason }) ::
        s.responses }))

/-- R253, R254, R230, R263, R266: ShortCircuitTest, turn by turn: S1 begins the outer pin; S2 leaves the outer pin's
route and its pull-up HIGH and every other control line LOW; S3 takes the corrected own voltage; the first half of S4
leaves the routes of both pins HIGH and every other line LOW; a facade failure records the outer pin alone and goes to
S5; and S7 answers the failed list, passing exactly when it is empty and the facade open. That a step with a wait in
it is more than one turn, the transient values, and that `facadeFailure` is the reason after `close()` and no other
(R266, where S7 knows two reasons), are the model's choices (log entries 21, 28 and 34). -/
def Obligations.ShortCircuitTestSteps : Prop :=
  ∀ (s : State) (pat pat' : Pattern), s.ready → s.pos.phase = .sweep → 1 ≤ s.pos.idx →
    tableEntry s.cfg s.pos.idx .A = some pat →
    let u := s.awake
    let w := u.work
    let p := s.pos.idx
    let pull := pullupPin s.cfg (pairOfPin s.cfg p)
    let own := analogRead (measPin s.cfg (pairOfPin s.cfg p)) u
    let other := analogRead (measPin s.cfg (pairOfPin s.cfg w.inner)) u
    let settled := some (s.env.now + s.cfg.settle)
    let failed := fun (t : State) =>
      t.atStep 5 { w with shorts := w.shorts ++ [{ outer := p, inner := none, voltage := none }] }
    (s.pos.step = 1 → s.stopRequested = false → workerStep s = u.atStep 2 w) ∧
    (s.pos.step = 2 → s.writesSucceed (16 + (patternLines pat).length + 1) → ∃ t : State,
      workerStep s = t.atStep 3 { w with wake := settled } ∧ FacadeOnly u t ∧
      (∀ q, t.fp q = if q = pull ∨ q ∈ linePins s.cfg pat then some true
        else if q ∈ s.cfg.linePin.toList then some false else s.fp q)) ∧
    (∀ e t, s.pos.step = 2 → routeClean p .A u = (some e, t) → workerStep s = failed t) ∧
    (∀ t t', s.pos.step = 2 → routeClean p .A u = (none, t) → digitalWrite pull true t = (false, t') →
      workerStep s = failed t') ∧
    (∀ v, s.pos.step = 3 → own.1 = some v →
      workerStep s = own.2.atStep 4 { w with vexp := degradeVolts s.cfg (s.cfg.vScale * v), inner := 1 }) ∧
    (s.pos.step = 3 → own.1 = none → workerStep s = failed own.2) ∧
    (s.pos.step = 4 → w.sub = 0 → 1 ≤ w.inner → tableEntry s.cfg w.inner .B = some pat' →
      s.writesSucceed (16 + (patternLines pat).length + (patternLines pat').length) → ∃ t : State,
      workerStep s = { t with work := { w with sub := 1, wake := settled } } ∧ FacadeOnly u t ∧
      (∀ q, t.fp q = if q ∈ linePins s.cfg pat ∨ q ∈ linePins s.cfg pat' then some true
        else if q ∈ s.cfg.linePin.toList then some false else s.fp q)) ∧
    (∀ e t, s.pos.step = 4 → w.sub = 0 → routeClean p .A u = (some e, t) → workerStep s = failed t) ∧
    (∀ e t t', s.pos.step = 4 → w.sub = 0 → routeClean p .A u = (none, t) →
      routePin w.inner .B t = (some e, t') → workerStep s = failed t') ∧
    (s.pos.step = 4 → w.sub ≠ 0 → other.1 = none → workerStep s = failed other.2) ∧
    (s.pos.step = 7 → w.inSeq = false → workerStep s = { s with
      busy := false
      pos := .idle
      work := .idle
      responses := .okValue (.check
        { measured := .shorts w.shorts
          pass := w.shorts.isEmpty && !s.facadeClosed
          reason := if s.facadeClosed then .facadeFailure
            else if w.shorts = [] then .ok else .shortsFound }) :: s.responses })

/-- R229, R230, R231, R240, R242, R247, R253, R257, R281: whatever the facade answers, the cleanup step of every check
(P15, U12, G8, S5, F6) leaves no control line HIGH, nor the auxiliary lines the check drives: a line is LOW, or its
own cleanup write failed and it holds no value. The check's verdict, its first reason, its measured values and the
failed list of a sweep stay as they were, and no subject, card, response or diagnostic changes. PullUpTest lowers its
pull-up line on every way from U3 to its cleanup step U12, which does not raise it. The cleanup is followed by the
check's last step; in ShortCircuitTest, whose S5 ends one outer pin, by S1 of the next pin, and by S7 after pin 50.
That a line whose write was attempted is restored too, that a cleanup failure changes neither verdict nor course, the
transient values, and the position (Sweep, 50, 7) after the last pin (R46) are the model's choices (log entries 14,
17, 28). -/
def Obligations.CleanupLeavesNoLineHigh : Prop :=
  (∀ (s : State) (sub : Subject), Inv s → s.pos.phase = .pullUp → 3 ≤ s.pos.step → s.pos.step ≤ 11 →
    s.subj[s.pos.idx]? = some sub → (workerStep s).pos.step = 12 →
    (workerStep s).pullup (pairOfPin s.cfg sub.input.pin) ≠ some true) ∧
  (∀ s : State, s.busy = true → s.work.wake = none →
    let t := workerStep s
    let kept := t.work = { s.work with sub := 0 } ∧ t.subj = s.subj ∧ t.fleet = s.fleet ∧
      t.responses = s.responses ∧ t.log = s.log
    (∀ sub, s.pos.phase = .power → s.pos.step = 15 → s.subj[s.pos.idx]? = some sub →
      kept ∧ (∀ i, t.line i ≠ some true) ∧ t.pos.step = 16) ∧
    (∀ sub, s.pos.phase = .pullUp → s.pos.step = 12 → s.subj[s.pos.idx]? = some sub →
      kept ∧ (∀ i, t.line i ≠ some true) ∧ t.pos.step = 13 ∧
      (∀ k, s.pullup k ≠ some true → t.pullup k ≠ some true)) ∧
    (∀ sub, s.pos.phase = .logic → s.pos.step = 8 → s.subj[s.pos.idx]? = some sub →
      kept ∧ (∀ i, t.line i ≠ some true) ∧ t.pos.step = 9 ∧
      (1 ≤ s.work.relays → ∀ l ∈ t.relay (pairOfPin s.cfg sub.input.pin), l ≠ some true) ∧
      (2 ≤ s.work.relays → ∀ l ∈ t.relay (pairOfPin s.cfg s.work.secondPin), l ≠ some true)) ∧
    (s.pos.phase = .sweep → s.pos.step = 5 →
      kept ∧ (∀ i, t.line i ≠ some true) ∧ t.pullup (pairOfPin s.cfg s.pos.idx) ≠ some true ∧
      t.pos = if s.pos.idx < 50 then { phase := .sweep, idx := s.pos.idx + 1, step := 1 }
        else { phase := .sweep, idx := s.pos.idx, step := 7 }) ∧
    (s.pos.phase = .relayFuse → s.pos.step = 6 →
      kept ∧ (∀ i, t.line i ≠ some true) ∧ t.sharedPullup s.work.pairA s.work.pairB ≠ some true ∧
      (∀ l ∈ t.relay s.work.pairA ++ t.relay s.work.pairB, l ≠ some true) ∧ t.pos.step = 7))

/-! ## Stimuli and verify steps -/

/-- R222: `applyStimulus` drives the output the directive names, a whole number of volts or a level, or fails and
writes nothing: `badValue` before the card is looked at, `cardAbsent` before the number, `outOfRange` for a number or
a voltage outside its range. -/
def Obligations.StimulusIsAppliedOrFails : Prop :=
  ∀ (s : State) (spec : Stimulus) (v : Int),
    (spec.kind = .DO → v ≠ 0 → v ≠ 1 → applyStimulus spec v s = (some .badValue, s)) ∧
    (s.chan spec.card = none → spec.kind = .AO ∨ v = 0 ∨ v = 1 → applyStimulus spec v s = (some .cardAbsent, s)) ∧
    (∀ ch, s.chan spec.card = some ch →
      (spec.kind = .DO → v = 0 ∨ v = 1 → spec.number = 0 ∨ 32 < spec.number →
        applyStimulus spec v s = (some .outOfRange, s)) ∧
      (spec.kind = .AO → 7 < spec.number ∨ v < -13 ∨ 13 < v → applyStimulus spec v s = (some .outOfRange, s)) ∧
      (spec.kind = .DO → v = 0 ∨ v = 1 → 1 ≤ spec.number → spec.number ≤ 32 → ∃ r : SendRegs,
        applyStimulus spec v s = (none, s.setChan spec.card { ch with sf := r }) ∧
        (∀ k, r.dout.getLsbD k = if k = spec.number - 1 then decide (v = 1) else ch.sf.dout.getLsbD k) ∧
        r.ttl = ch.sf.ttl ∧ r.rows = ch.sf.rows ∧ r.cols = ch.sf.cols ∧ r.ao = ch.sf.ao) ∧
      (spec.kind = .AO → spec.number ≤ 7 → -13 ≤ v → v ≤ 13 → ∃ (q : Raw) (r : SendRegs),
        applyStimulus spec v s = (none, s.setChan spec.card { ch with sf := r }) ∧
        absRat ((q.toInt : Rat) * 27 / 65536 - v) ≤ 27 / 131072 ∧ r.ao[spec.number]? = some q ∧
        (∀ k, k ≠ spec.number → r.ao[k]? = ch.sf.ao[k]?) ∧
        r.dout = ch.sf.dout ∧ r.ttl = ch.sf.ttl ∧ r.rows = ch.sf.rows ∧ r.cols = ch.sf.cols))

/-- R157, R192, R224: the verify step writes nothing: false at once for an absent card; suspended while no fresh frame
has come and the deadline is not reached; false when the deadline is reached and none has come by then; and once one
has, at whatever time the worker looks, the answer of the comparison with the value read back, by default the card's
own register. Whatever the read-back, its answer does not depend on the header, MROW or TAIL of the last frame. That
the worker polls, turn by turn, and that a frame at the deadline itself counts, are the model's choices (log entries
21 and 12). -/
def Obligations.VerifyStepWaitsForAFreshFrame : Prop :=
  ∀ (s : State) (spec : Stimulus) (want : Int),
    (s.chan spec.card = none → verifyPoll spec want s = some false) ∧
    (∀ ch, s.chan spec.card = some ch →
      ((∀ t ∈ ch.rxTimes, t ≤ s.work.t0 ∨ s.work.deadline < t) →
        (s.env.now < s.work.deadline → verifyPoll spec want s = none) ∧
        (s.work.deadline ≤ s.env.now → verifyPoll spec want s = some false)) ∧
      (∀ t ∈ ch.rxTimes, s.work.t0 < t → t ≤ s.work.deadline → s.cfg.readBack = .localGetter →
        (∀ q, spec.kind = .AO → ch.sf.ao[spec.number]? = some q → verifyPoll spec want s =
          some (decide (absRat ((q.toInt : Rat) * 27 / 65536 - want) ≤ s.cfg.tol))) ∧
        (spec.kind = .DO → 1 ≤ spec.number → spec.number ≤ 32 → verifyPoll spec want s =
          some (decide (ch.sf.dout.getLsbD (spec.number - 1) = decide (want = 1)))) ∧
        (spec.kind = .AO ∧ 7 < spec.number ∨ spec.kind = .DO ∧ (spec.number = 0 ∨ 32 < spec.number) →
          verifyPoll spec want s = some false))) ∧
    (∀ (ch : Channel) (b b' : RxBuffer), s.chan spec.card = some ch → ch.rf = some b →
      (∀ k : Nat, 2 ≤ k ∧ k < 12 ∨ 16 ≤ k ∧ k < 48 → b[k]? = b'[k]?) →
      verifyPoll spec want (s.setChan spec.card { ch with rf := some b' }) = verifyPoll spec want s)

/-- R111 to R114, R221, R236: `parseStimulus` and `parseLogicExpected` read exactly their grammars: upper-case
letters, decimal digits, one optional minus sign before the value, nothing before and nothing after. The special
strings of `powerInput` are the empty one and `none`, and they and every string without a match mean no stimulus; that
of `pullupInput` is `G`. -/
def Obligations.DirectiveGrammars : Prop :=
  (∀ (t : Text) (spec : Stimulus), parseStimulus t = some spec ↔
    ∃ (dc dn dv : Text) (neg : Bool) (m : Nat),
      isDecimal dc spec.card ∧ isDecimal dn spec.number ∧ isDecimal dv m ∧
      spec.value = (if neg then -(m : Int) else (m : Int)) ∧
      t = ['C'] ++ dc ++ ['_'] ++ kindText spec.kind ++ dn ++ ['_'] ++ (if neg then ['-'] else []) ++ dv) ∧
  (∀ (t : Text) (e : LogicExpectation), parseLogicExpected t = some e ↔
    ∃ dc dn : Text, isDecimal dc e.card ∧ isDecimal dn e.number ∧
      t = ['C'] ++ dc ++ ['_', 'D', 'I'] ++ dn ++ ['_', if e.bit then '1' else '0']) ∧
  (∀ t : Text, namesNoStimulus t → classifyPowerInput t = none) ∧
  (∀ (t : Text) (spec : Stimulus), parseStimulus t = some spec → classifyPowerInput t = some spec) ∧
  (∀ t : Text, isGText t = true ↔ t = ['G'])

/-! ## Invariants and rules of the whole machine -/

/-- The invariant of the state is kept by every step, from every state that has it (R32 to R34, R36, R38, R45, R46,
R100, R171, R188, R189, R192, R203, R242). That a finished engine keeps no transient values, that the times of all
accepted frames are kept, the bounds on `verifyWait`, `commTimeout`, `recvWait` and `sendPeriod`, which no rule writes
out, and what a STARTALL or STOPALL in progress holds, are the model's choices (log entries 28, 12, 1 and 21). -/
def Obligations.InvariantIsKept : Prop :=
  ∀ s t : State, Inv s → step s = .next t → Inv t

/-- R83, R233, R310: the settle barrier is kept by every step: no measurement of a check comes sooner than the settle
delay after a write, nor, of a stimulus, sooner than the settle delay after its setter step, whose time P8 and U8
record. That the time is kept among the transient values is the model's choice (log entry 28). -/
def Obligations.SettleBarrierIsKept : Prop :=
  (∀ s t : State, SettledInv s → step s = .next t → SettledInv t) ∧
  (∀ s : State, SettledInv s → stimulated s.pos = true → (∃ c ∈ (workerStep s).facade, c ∉ s.facade) →
    s.work.t0 + s.cfg.settle ≤ s.env.now) ∧
  (∀ s : State, (s.pos.phase = .power ∨ s.pos.phase = .pullUp) → s.pos.step = 8 → (workerStep s).pos.step = 9 →
    (workerStep s).work.t0 = s.env.now)

/-- R267: every step keeps that a check's verdict is a pass exactly when its reason is `ok`. -/
def Obligations.VerdictsAreKept : Prop :=
  ∀ s t : State, VerdictInv s → step s = .next t → VerdictInv t

/-- R49, R300, R301: the state after reset has the three invariants, and holds what R49 says: registers zero, no
frame, no timestamp, channels `Created`, counters zero, no pin with a value, no result, no stop request, the engine
idle (decisions of the spec, D42). The transient values of an idle engine, that no STARTALL or STOPALL is in progress,
and the bounds on `verifyWait`, `commTimeout`, `recvWait` and `sendPeriod` among the constraints on the configuration,
are the model's choices (log entries 5 and 1). -/
def Obligations.ResetState : Prop :=
  Inv State.reset ∧ SettledInv State.reset ∧ VerdictInv State.reset ∧
  (∀ (c : Int) (ch : Channel), State.reset.chan c = some ch →
    ch.run = .created ∧ ch.sf.dout = 0 ∧ ch.sf.ttl = 0 ∧ ch.sf.rows = 0 ∧ ch.sf.cols = 0 ∧
    (∀ (k : Nat) (q : Raw), ch.sf.ao[k]? = some q → q = 0) ∧ ch.rf = none ∧ ch.lastRx = none ∧ ch.lastTx = none ∧
    ch.txCount = 0 ∧ ch.txErrors = 0 ∧ ch.rxCount = 0 ∧ ch.rxDropped = 0) ∧
  (∀ q, State.reset.fp q = none) ∧
  (∀ sub ∈ State.reset.subj, sub.powerMeasured = none ∧ sub.pullupMeasured = none ∧
    sub.powerResult = .noResult ∧ sub.pullupResult = .noResult ∧ sub.logicResult = .noResult) ∧
  State.reset.stopRequested = false ∧ State.reset.busy = false ∧ State.reset.pos = .idle ∧ State.reset.fleetOps = []

/-- R281, R12, R8: no step stops the machine, whatever the state; the clock never runs back; the configuration never
changes. -/
def Obligations.EveryStepContinues : Prop :=
  ∀ s : State, ∃ t : State, step s = .next t ∧ s.env.now ≤ t.env.now ∧ t.cfg = s.cfg

/-- R38, R185, R32, R171: the fleet map is constant, a channel's constants are constant, no channel leaves Stopped or
Failed, none returns to Created, and no counter decreases. -/
def Obligations.FleetMapIsConstantAndNothingRestarts : Prop :=
  ∀ (s t : State) (c : Int), step s = .next t →
    (s.chan c = none → t.chan c = none) ∧
    (∀ a, s.chan c = some a → ∃ b, t.chan c = some b ∧
      b.id = a.id ∧ b.enabled = a.enabled ∧ b.txEndpoint = a.txEndpoint ∧ b.rxEndpoint = a.rxEndpoint ∧
      (a.run = .stopped → b.run = .stopped) ∧ (a.run = .failed → b.run = .failed) ∧
      (a.run = .running → b.run = .running ∨ b.run = .stopped) ∧
      a.txCount ≤ b.txCount ∧ a.txErrors ≤ b.txErrors ∧ a.rxCount ≤ b.rxCount ∧ a.rxDropped ≤ b.rxDropped)

/-- R285 (b), R27: `lastRx`, `lastTx` and the counters are written by the loops' events only; and `RF` by them and by
PARSE only. That PARSE, a caller's operation, writes `RF`, as R152 says and these two deny, is the model's choice (log
entry 36). -/
def Obligations.SessionStateIsWrittenByTheLoops : Prop :=
  ∀ (s t : State) (c : Int) (a b : Channel), step s = .next t → (∀ w, (fetchInput s).1 ≠ .event w) →
    s.chan c = some a → t.chan c = some b →
    b.lastRx = a.lastRx ∧ b.lastTx = a.lastTx ∧ b.txCount = a.txCount ∧ b.txErrors = a.txErrors ∧
    b.rxCount = a.rxCount ∧ b.rxDropped = a.rxDropped ∧ b.rxTimes = a.rxTimes ∧
    ((∀ w d, (fetchInput s).1 = .command w → decode w ≠ .ok (.parse d)) → b.rf = a.rf)

/-- R86, R283, R285 (d), R313: while the engine is busy nothing but the worker touches the facade, a pin, a subject or
the engine's own state; and an operation of a card, an event or a stop request never does. That a subject table loaded
while busy is ignored is the model's choice (log entry 19). -/
def Obligations.FacadeBelongsToTheEngine : Prop :=
  (∀ s t : State, s.busy = true → (fetchInput s).1 ≠ .worker → step s = .next t →
    t.pins = s.pins ∧ t.facade = s.facade ∧ t.facadeClosed = s.facadeClosed ∧ t.subj = s.subj ∧
    t.busy = true ∧ t.pos = s.pos ∧ t.work = s.work) ∧
  (∀ (i : Instr) (s t : State), i.engineSide = false → exec i s = .next t →
    t.pins = s.pins ∧ t.facade = s.facade ∧ t.facadeClosed = s.facadeClosed ∧ t.subj = s.subj ∧
    t.busy = s.busy ∧ t.pos = s.pos ∧ t.work = s.work)

/-- R40, R41, R43, R49, R285 (e), R300: but for the loading of a subject table, every step keeps the input fields of
every subject, no step writes NoResult over a result, and a subject's fields change only by a turn of the worker. A
table loaded while the engine is idle gives fresh records: the inputs as supplied, nothing measured, every result
NoResult; and nothing else changes. That the records stay after a sequence has reported its results, until another
table is loaded, and that the loading is an input of the machine, are the model's choices (log entries 35 and 2). -/
def Obligations.ResultsAreKept : Prop :=
  (∀ (s t : State) (k : Nat) (a : Subject), step s = .next t → (∀ l, (fetchInput s).1 ≠ .subjects l) →
    s.subj[k]? = some a → ∃ b, t.subj[k]? = some b ∧ b.input = a.input ∧
      (a.powerResult ≠ .noResult → b.powerResult ≠ .noResult) ∧
      (a.pullupResult ≠ .noResult → b.pullupResult ≠ .noResult) ∧
      (a.logicResult ≠ .noResult → b.logicResult ≠ .noResult) ∧
      ((fetchInput s).1 ≠ .worker → b = a)) ∧
  (∀ (s : State) (l : List SubjectInput) (rest : List Input), s.busy = false → s.env.agenda = .subjects l :: rest →
    step s = .next { s with
      env := { s.env with agenda := rest }
      subj := l.map fun i =>
        { input := i
          powerMeasured := none
          pullupMeasured := none
          powerResult := .noResult
          pullupResult := .noResult
          logicResult := .noResult } })

/-- R229, R263, R264: away from its stop points the worker's turn does not depend on the stop request and does not
write it; at a stop point a set request ends the sequence, or sends the sweep to its return, at its first pin after a
`clearAll()`. That an ended sequence keeps no transient values, and that the sweep makes that `clearAll()` at S1 and
none of its own at a later pin, are the model's choices (log entries 28 and 32). -/
def Obligations.StopFlagIsReadOnlyAtStopPoints : Prop :=
  (∀ (s : State) (b : Bool), ¬ atStopPoint s → workerStep (s.setStop b) = (workerStep s).setStop b) ∧
  (∀ s : State, s.busy = true → s.work.wake = none → s.stopRequested = true →
    (∀ sub, (s.pos.phase = .power ∨ s.pos.phase = .pullUp ∨ s.pos.phase = .logic) → s.pos.step = 0 →
      s.subj[s.pos.idx]? = some sub →
      workerStep s = { s with busy := false, pos := .idle, work := .idle }) ∧
    (s.pos.phase = .sweep → s.pos.step = 1 →
      let u := { s with pos := { s.pos with step := 7 }, work := { s.work with sub := 0 } }
      (s.pos.idx ≠ 1 → workerStep s = u) ∧
      (s.pos.idx = 1 → FacadeOnly u (workerStep s) ∧ (∀ i, (workerStep s).line i ≠ some true) ∧
        (s.writesSucceed 16 → ∀ q, (workerStep s).fp q =
          if q ∈ s.cfg.linePin.toList then some false else s.fp q))))

/-- R260, R262: the worker in a sequence: a subject that is eligible for the phase's check begins it, one that is not
is skipped with a warning and gives no response; a check's return writes its subject's result, gives no response, and
the next subject follows; after the last subject the next phase begins, and after the last phase the engine is idle.
The position between checks and the transient values, what the warning holds, and that a skip in a sequence gives no
response are the model's choices (log entries 28, 30 and 33). -/
def Obligations.SequenceGoesThroughItsPhases : Prop :=
  ∀ s : State, s.busy = true → s.work.wake = none → s.stopRequested = false →
    (s.subj[s.pos.idx]? = none →
      (s.pos.phase = .power → workerStep s = { s with pos := { phase := .pullUp, idx := 0, step := 0 } }) ∧
      (s.pos.phase = .pullUp → workerStep s = { s with pos := { phase := .logic, idx := 0, step := 0 } }) ∧
      (s.pos.phase = .logic → workerStep s = { s with busy := false, pos := .idle, work := .idle })) ∧
    (∀ sub, s.subj[s.pos.idx]? = some sub → s.pos.step = 0 →
      s.pos.phase = .power ∨ s.pos.phase = .pullUp ∨ s.pos.phase = .logic →
      (eligible s.cfg s.pos.phase sub = true →
        workerStep s = { s with pos := { s.pos with step := 1 }, work := { s.work with sub := 0 } }) ∧
      (eligible s.cfg s.pos.phase sub = false →
        workerStep s = { s with
          pos := { s.pos with idx := s.pos.idx + 1, step := 0 }
          log := .skipped s.pos.phase s.pos.idx :: s.log })) ∧
    (∀ sub, s.subj[s.pos.idx]? = some sub → s.work.inSeq = true →
      let next := { s with
        pos := { s.pos with idx := s.pos.idx + 1, step := 0 }
        work := { Work.idle with inSeq := true } }
      let result := if s.work.pass then TriResult.pass else TriResult.fail
      (s.pos.phase = .power → s.pos.step = 16 → workerStep s = { next with
        subj := s.subj.set s.pos.idx { sub with powerMeasured := s.work.measured, powerResult := result } }) ∧
      (s.pos.phase = .pullUp → s.pos.step = 13 → workerStep s = { next with
        subj := s.subj.set s.pos.idx { sub with pullupMeasured := s.work.measured, pullupResult := result } }) ∧
      (s.pos.phase = .logic → s.pos.step = 9 → workerStep s = { next with
        subj := s.subj.set s.pos.idx { sub with logicResult := result } }))

end
end

