-- ==== Sys2Proof/Laws/Memory.lean ====
section
/-!
SUPPORT. The facade pin memory: every operation keeps the canonical form; what a read sees after a write or after
a pin lost its value.
-/

namespace Sys2Proof.Machine

/-! ## The canonical form -/

theorem Memory.wf_nil : Memory.wf [] := List.Pairwise.nil

/-- The pins a write lists are the pin written and those listed before. -/
theorem Memory.mem_write {p : FacadePin} {l : Bool} {m : Memory} {x : FacadePin × Bool}
    (h : x ∈ Memory.write p l m) : x = (p, l) ∨ x ∈ m := by
  induction m with
  | nil => simpa [Memory.write] using h
  | cons y m ih =>
    simp only [Memory.write] at h
    split at h
    · simpa using h
    · split at h
      · rcases List.mem_cons.1 h with h | h
        · exact .inl h
        · exact .inr (List.mem_cons_of_mem _ h)
      · rcases List.mem_cons.1 h with h | h
        · exact .inr (by simp [h])
        · rcases ih h with h | h
          · exact .inl h
          · exact .inr (List.mem_cons_of_mem _ h)

theorem Memory.wf_write (p : FacadePin) (l : Bool) {m : Memory} (h : m.wf) : (Memory.write p l m).wf := by
  induction m with
  | nil => simp [Memory.write, Memory.wf]
  | cons y m ih =>
    obtain ⟨hy, hm⟩ := List.pairwise_cons.1 h
    simp only [Memory.write]
    split
    · rename_i hlt
      refine List.pairwise_cons.2 ⟨fun x hx => ?_, h⟩
      rcases List.mem_cons.1 hx with rfl | hx
      · exact hlt
      · exact lt_trans hlt (hy x hx)
    · split
      · rename_i heq
        exact List.pairwise_cons.2 ⟨fun x hx => by simpa [heq] using hy x hx, hm⟩
      · rename_i hnlt hne
        refine List.pairwise_cons.2 ⟨fun x hx => ?_, ih hm⟩
        rcases Memory.mem_write hx with rfl | hx
        · exact lt_of_le_of_ne (not_lt.1 hnlt) (Ne.symm hne)
        · exact hy x hx

theorem Memory.wf_erase (p : FacadePin) {m : Memory} (h : m.wf) : (Memory.erase p m).wf :=
  List.Pairwise.filter _ h

/-! ## Reading -/

@[simp] theorem Memory.read_nil (q : FacadePin) : Memory.read q [] = none := rfl

/-- A pin below every pin listed holds no value. -/
theorem Memory.read_eq_none {q : FacadePin} {m : Memory} (h : ∀ x ∈ m, q ≠ x.1) : Memory.read q m = none := by
  induction m with
  | nil => rfl
  | cons y m ih =>
    simp only [Memory.read, if_neg (h y (by simp))]
    exact ih fun x hx => h x (List.mem_cons_of_mem _ hx)

/-- Reading after a write: the pin written holds the level, every other pin what it held. -/
theorem Memory.read_write (p q : FacadePin) (l : Bool) (m : Memory) :
    Memory.read q (Memory.write p l m) = if q = p then some l else Memory.read q m := by
  induction m with
  | nil => by_cases hq : q = p <;> simp [Memory.write, Memory.read, hq]
  | cons y m ih =>
    simp only [Memory.write]
    split
    · by_cases hq : q = p <;> simp [Memory.read, hq]
    · split
      · rename_i heq
        by_cases hq : q = p
        · simp [Memory.read, hq]
        · simp [Memory.read, hq, ← heq]
      · rename_i hne
        by_cases hq : q = y.1
        · have : q ≠ p := fun h => hne (h ▸ hq)
          simp [Memory.read, hq, show y.1 ≠ p from hq ▸ this]
        · simp [Memory.read, hq, ih]

/-- Reading after a pin lost its value: that pin holds none, every other pin what it held. -/
theorem Memory.read_erase (p q : FacadePin) (m : Memory) :
    Memory.read q (Memory.erase p m) = if q = p then none else Memory.read q m := by
  induction m with
  | nil => simp [Memory.erase]
  | cons y m ih =>
    unfold Memory.erase at ih ⊢
    by_cases hy : y.1 = p
    · simp only [hy, ne_eq, not_true_eq_false, decide_false, Bool.false_eq_true, not_false_eq_true,
        List.filter_cons_of_neg, ih]
      by_cases hq : q = p
      · simp [hq]
      · simp [Memory.read, hq, hy]
    · simp only [ne_eq, hy, not_false_eq_true, decide_true, List.filter_cons_of_pos, Memory.read, ih]
      by_cases hq : q = y.1
      · simp [hq, hy]
      · simp [hq]

end Sys2Proof.Machine
end

