-- ==== Sys2Proof/Laws/State.lean ====
section
/-!
SUPPORT. What each update of the state leaves in each field, true by definition.
-/

namespace Sys2Proof.Machine

/-! `setPins` -/

@[simp] theorem State.setPins_cfg (s : State) (m : Memory) : (s.setPins m).cfg = s.cfg := rfl
@[simp] theorem State.setPins_fleet (s : State) (m : Memory) : (s.setPins m).fleet = s.fleet := rfl
@[simp] theorem State.setPins_pins (s : State) (m : Memory) : (s.setPins m).pins = m := rfl
@[simp] theorem State.setPins_facadeClosed (s : State) (m : Memory) : (s.setPins m).facadeClosed = s.facadeClosed := rfl
@[simp] theorem State.setPins_fleetOps (s : State) (m : Memory) : (s.setPins m).fleetOps = s.fleetOps := rfl
@[simp] theorem State.setPins_subj (s : State) (m : Memory) : (s.setPins m).subj = s.subj := rfl
@[simp] theorem State.setPins_stopRequested (s : State) (m : Memory) : (s.setPins m).stopRequested = s.stopRequested := rfl
@[simp] theorem State.setPins_busy (s : State) (m : Memory) : (s.setPins m).busy = s.busy := rfl
@[simp] theorem State.setPins_pos (s : State) (m : Memory) : (s.setPins m).pos = s.pos := rfl
@[simp] theorem State.setPins_work (s : State) (m : Memory) : (s.setPins m).work = s.work := rfl
@[simp] theorem State.setPins_env (s : State) (m : Memory) : (s.setPins m).env = s.env := rfl
@[simp] theorem State.setPins_responses (s : State) (m : Memory) : (s.setPins m).responses = s.responses := rfl
@[simp] theorem State.setPins_log (s : State) (m : Memory) : (s.setPins m).log = s.log := rfl
@[simp] theorem State.setPins_facade (s : State) (m : Memory) : (s.setPins m).facade = s.facade := rfl

/-! `setFleet` -/

@[simp] theorem State.setFleet_cfg (s : State) (f : Vector (Option Channel) 7) : (s.setFleet f).cfg = s.cfg := rfl
@[simp] theorem State.setFleet_fleet (s : State) (f : Vector (Option Channel) 7) : (s.setFleet f).fleet = f := rfl
@[simp] theorem State.setFleet_pins (s : State) (f : Vector (Option Channel) 7) : (s.setFleet f).pins = s.pins := rfl
@[simp] theorem State.setFleet_facadeClosed (s : State) (f : Vector (Option Channel) 7) : (s.setFleet f).facadeClosed = s.facadeClosed := rfl
@[simp] theorem State.setFleet_fleetOps (s : State) (f : Vector (Option Channel) 7) : (s.setFleet f).fleetOps = s.fleetOps := rfl
@[simp] theorem State.setFleet_subj (s : State) (f : Vector (Option Channel) 7) : (s.setFleet f).subj = s.subj := rfl
@[simp] theorem State.setFleet_stopRequested (s : State) (f : Vector (Option Channel) 7) : (s.setFleet f).stopRequested = s.stopRequested := rfl
@[simp] theorem State.setFleet_busy (s : State) (f : Vector (Option Channel) 7) : (s.setFleet f).busy = s.busy := rfl
@[simp] theorem State.setFleet_pos (s : State) (f : Vector (Option Channel) 7) : (s.setFleet f).pos = s.pos := rfl
@[simp] theorem State.setFleet_work (s : State) (f : Vector (Option Channel) 7) : (s.setFleet f).work = s.work := rfl
@[simp] theorem State.setFleet_env (s : State) (f : Vector (Option Channel) 7) : (s.setFleet f).env = s.env := rfl
@[simp] theorem State.setFleet_responses (s : State) (f : Vector (Option Channel) 7) : (s.setFleet f).responses = s.responses := rfl
@[simp] theorem State.setFleet_log (s : State) (f : Vector (Option Channel) 7) : (s.setFleet f).log = s.log := rfl
@[simp] theorem State.setFleet_facade (s : State) (f : Vector (Option Channel) 7) : (s.setFleet f).facade = s.facade := rfl

/-! `setClosed` -/

@[simp] theorem State.setClosed_cfg (s : State) (b : Bool) : (s.setClosed b).cfg = s.cfg := rfl
@[simp] theorem State.setClosed_fleet (s : State) (b : Bool) : (s.setClosed b).fleet = s.fleet := rfl
@[simp] theorem State.setClosed_pins (s : State) (b : Bool) : (s.setClosed b).pins = s.pins := rfl
@[simp] theorem State.setClosed_facadeClosed (s : State) (b : Bool) : (s.setClosed b).facadeClosed = b := rfl
@[simp] theorem State.setClosed_fleetOps (s : State) (b : Bool) : (s.setClosed b).fleetOps = s.fleetOps := rfl
@[simp] theorem State.setClosed_subj (s : State) (b : Bool) : (s.setClosed b).subj = s.subj := rfl
@[simp] theorem State.setClosed_stopRequested (s : State) (b : Bool) : (s.setClosed b).stopRequested = s.stopRequested := rfl
@[simp] theorem State.setClosed_busy (s : State) (b : Bool) : (s.setClosed b).busy = s.busy := rfl
@[simp] theorem State.setClosed_pos (s : State) (b : Bool) : (s.setClosed b).pos = s.pos := rfl
@[simp] theorem State.setClosed_work (s : State) (b : Bool) : (s.setClosed b).work = s.work := rfl
@[simp] theorem State.setClosed_env (s : State) (b : Bool) : (s.setClosed b).env = s.env := rfl
@[simp] theorem State.setClosed_responses (s : State) (b : Bool) : (s.setClosed b).responses = s.responses := rfl
@[simp] theorem State.setClosed_log (s : State) (b : Bool) : (s.setClosed b).log = s.log := rfl
@[simp] theorem State.setClosed_facade (s : State) (b : Bool) : (s.setClosed b).facade = s.facade := rfl

/-! `setSubj` -/

@[simp] theorem State.setSubj_cfg (s : State) (l : List Subject) : (s.setSubj l).cfg = s.cfg := rfl
@[simp] theorem State.setSubj_fleet (s : State) (l : List Subject) : (s.setSubj l).fleet = s.fleet := rfl
@[simp] theorem State.setSubj_pins (s : State) (l : List Subject) : (s.setSubj l).pins = s.pins := rfl
@[simp] theorem State.setSubj_facadeClosed (s : State) (l : List Subject) : (s.setSubj l).facadeClosed = s.facadeClosed := rfl
@[simp] theorem State.setSubj_fleetOps (s : State) (l : List Subject) : (s.setSubj l).fleetOps = s.fleetOps := rfl
@[simp] theorem State.setSubj_subj (s : State) (l : List Subject) : (s.setSubj l).subj = l := rfl
@[simp] theorem State.setSubj_stopRequested (s : State) (l : List Subject) : (s.setSubj l).stopRequested = s.stopRequested := rfl
@[simp] theorem State.setSubj_busy (s : State) (l : List Subject) : (s.setSubj l).busy = s.busy := rfl
@[simp] theorem State.setSubj_pos (s : State) (l : List Subject) : (s.setSubj l).pos = s.pos := rfl
@[simp] theorem State.setSubj_work (s : State) (l : List Subject) : (s.setSubj l).work = s.work := rfl
@[simp] theorem State.setSubj_env (s : State) (l : List Subject) : (s.setSubj l).env = s.env := rfl
@[simp] theorem State.setSubj_responses (s : State) (l : List Subject) : (s.setSubj l).responses = s.responses := rfl
@[simp] theorem State.setSubj_log (s : State) (l : List Subject) : (s.setSubj l).log = s.log := rfl
@[simp] theorem State.setSubj_facade (s : State) (l : List Subject) : (s.setSubj l).facade = s.facade := rfl

/-! `setStop` -/

@[simp] theorem State.setStop_cfg (s : State) (b : Bool) : (s.setStop b).cfg = s.cfg := rfl
@[simp] theorem State.setStop_fleet (s : State) (b : Bool) : (s.setStop b).fleet = s.fleet := rfl
@[simp] theorem State.setStop_pins (s : State) (b : Bool) : (s.setStop b).pins = s.pins := rfl
@[simp] theorem State.setStop_facadeClosed (s : State) (b : Bool) : (s.setStop b).facadeClosed = s.facadeClosed := rfl
@[simp] theorem State.setStop_fleetOps (s : State) (b : Bool) : (s.setStop b).fleetOps = s.fleetOps := rfl
@[simp] theorem State.setStop_subj (s : State) (b : Bool) : (s.setStop b).subj = s.subj := rfl
@[simp] theorem State.setStop_stopRequested (s : State) (b : Bool) : (s.setStop b).stopRequested = b := rfl
@[simp] theorem State.setStop_busy (s : State) (b : Bool) : (s.setStop b).busy = s.busy := rfl
@[simp] theorem State.setStop_pos (s : State) (b : Bool) : (s.setStop b).pos = s.pos := rfl
@[simp] theorem State.setStop_work (s : State) (b : Bool) : (s.setStop b).work = s.work := rfl
@[simp] theorem State.setStop_env (s : State) (b : Bool) : (s.setStop b).env = s.env := rfl
@[simp] theorem State.setStop_responses (s : State) (b : Bool) : (s.setStop b).responses = s.responses := rfl
@[simp] theorem State.setStop_log (s : State) (b : Bool) : (s.setStop b).log = s.log := rfl
@[simp] theorem State.setStop_facade (s : State) (b : Bool) : (s.setStop b).facade = s.facade := rfl

/-! `setBusy` -/

@[simp] theorem State.setBusy_cfg (s : State) (b : Bool) : (s.setBusy b).cfg = s.cfg := rfl
@[simp] theorem State.setBusy_fleet (s : State) (b : Bool) : (s.setBusy b).fleet = s.fleet := rfl
@[simp] theorem State.setBusy_pins (s : State) (b : Bool) : (s.setBusy b).pins = s.pins := rfl
@[simp] theorem State.setBusy_facadeClosed (s : State) (b : Bool) : (s.setBusy b).facadeClosed = s.facadeClosed := rfl
@[simp] theorem State.setBusy_fleetOps (s : State) (b : Bool) : (s.setBusy b).fleetOps = s.fleetOps := rfl
@[simp] theorem State.setBusy_subj (s : State) (b : Bool) : (s.setBusy b).subj = s.subj := rfl
@[simp] theorem State.setBusy_stopRequested (s : State) (b : Bool) : (s.setBusy b).stopRequested = s.stopRequested := rfl
@[simp] theorem State.setBusy_busy (s : State) (b : Bool) : (s.setBusy b).busy = b := rfl
@[simp] theorem State.setBusy_pos (s : State) (b : Bool) : (s.setBusy b).pos = s.pos := rfl
@[simp] theorem State.setBusy_work (s : State) (b : Bool) : (s.setBusy b).work = s.work := rfl
@[simp] theorem State.setBusy_env (s : State) (b : Bool) : (s.setBusy b).env = s.env := rfl
@[simp] theorem State.setBusy_responses (s : State) (b : Bool) : (s.setBusy b).responses = s.responses := rfl
@[simp] theorem State.setBusy_log (s : State) (b : Bool) : (s.setBusy b).log = s.log := rfl
@[simp] theorem State.setBusy_facade (s : State) (b : Bool) : (s.setBusy b).facade = s.facade := rfl

/-! `setPos` -/

@[simp] theorem State.setPos_cfg (s : State) (p : SeqPos) : (s.setPos p).cfg = s.cfg := rfl
@[simp] theorem State.setPos_fleet (s : State) (p : SeqPos) : (s.setPos p).fleet = s.fleet := rfl
@[simp] theorem State.setPos_pins (s : State) (p : SeqPos) : (s.setPos p).pins = s.pins := rfl
@[simp] theorem State.setPos_facadeClosed (s : State) (p : SeqPos) : (s.setPos p).facadeClosed = s.facadeClosed := rfl
@[simp] theorem State.setPos_fleetOps (s : State) (p : SeqPos) : (s.setPos p).fleetOps = s.fleetOps := rfl
@[simp] theorem State.setPos_subj (s : State) (p : SeqPos) : (s.setPos p).subj = s.subj := rfl
@[simp] theorem State.setPos_stopRequested (s : State) (p : SeqPos) : (s.setPos p).stopRequested = s.stopRequested := rfl
@[simp] theorem State.setPos_busy (s : State) (p : SeqPos) : (s.setPos p).busy = s.busy := rfl
@[simp] theorem State.setPos_pos (s : State) (p : SeqPos) : (s.setPos p).pos = p := rfl
@[simp] theorem State.setPos_work (s : State) (p : SeqPos) : (s.setPos p).work = s.work := rfl
@[simp] theorem State.setPos_env (s : State) (p : SeqPos) : (s.setPos p).env = s.env := rfl
@[simp] theorem State.setPos_responses (s : State) (p : SeqPos) : (s.setPos p).responses = s.responses := rfl
@[simp] theorem State.setPos_log (s : State) (p : SeqPos) : (s.setPos p).log = s.log := rfl
@[simp] theorem State.setPos_facade (s : State) (p : SeqPos) : (s.setPos p).facade = s.facade := rfl

/-! `setWork` -/

@[simp] theorem State.setWork_cfg (s : State) (w : Work) : (s.setWork w).cfg = s.cfg := rfl
@[simp] theorem State.setWork_fleet (s : State) (w : Work) : (s.setWork w).fleet = s.fleet := rfl
@[simp] theorem State.setWork_pins (s : State) (w : Work) : (s.setWork w).pins = s.pins := rfl
@[simp] theorem State.setWork_facadeClosed (s : State) (w : Work) : (s.setWork w).facadeClosed = s.facadeClosed := rfl
@[simp] theorem State.setWork_fleetOps (s : State) (w : Work) : (s.setWork w).fleetOps = s.fleetOps := rfl
@[simp] theorem State.setWork_subj (s : State) (w : Work) : (s.setWork w).subj = s.subj := rfl
@[simp] theorem State.setWork_stopRequested (s : State) (w : Work) : (s.setWork w).stopRequested = s.stopRequested := rfl
@[simp] theorem State.setWork_busy (s : State) (w : Work) : (s.setWork w).busy = s.busy := rfl
@[simp] theorem State.setWork_pos (s : State) (w : Work) : (s.setWork w).pos = s.pos := rfl
@[simp] theorem State.setWork_work (s : State) (w : Work) : (s.setWork w).work = w := rfl
@[simp] theorem State.setWork_env (s : State) (w : Work) : (s.setWork w).env = s.env := rfl
@[simp] theorem State.setWork_responses (s : State) (w : Work) : (s.setWork w).responses = s.responses := rfl
@[simp] theorem State.setWork_log (s : State) (w : Work) : (s.setWork w).log = s.log := rfl
@[simp] theorem State.setWork_facade (s : State) (w : Work) : (s.setWork w).facade = s.facade := rfl

/-! `setFleetOps` -/

@[simp] theorem State.setFleetOps_cfg (s : State) (l : List FleetOp) : (s.setFleetOps l).cfg = s.cfg := rfl
@[simp] theorem State.setFleetOps_fleet (s : State) (l : List FleetOp) : (s.setFleetOps l).fleet = s.fleet := rfl
@[simp] theorem State.setFleetOps_pins (s : State) (l : List FleetOp) : (s.setFleetOps l).pins = s.pins := rfl
@[simp] theorem State.setFleetOps_facadeClosed (s : State) (l : List FleetOp) : (s.setFleetOps l).facadeClosed = s.facadeClosed := rfl
@[simp] theorem State.setFleetOps_fleetOps (s : State) (l : List FleetOp) : (s.setFleetOps l).fleetOps = l := rfl
@[simp] theorem State.setFleetOps_subj (s : State) (l : List FleetOp) : (s.setFleetOps l).subj = s.subj := rfl
@[simp] theorem State.setFleetOps_stopRequested (s : State) (l : List FleetOp) : (s.setFleetOps l).stopRequested = s.stopRequested := rfl
@[simp] theorem State.setFleetOps_busy (s : State) (l : List FleetOp) : (s.setFleetOps l).busy = s.busy := rfl
@[simp] theorem State.setFleetOps_pos (s : State) (l : List FleetOp) : (s.setFleetOps l).pos = s.pos := rfl
@[simp] theorem State.setFleetOps_work (s : State) (l : List FleetOp) : (s.setFleetOps l).work = s.work := rfl
@[simp] theorem State.setFleetOps_env (s : State) (l : List FleetOp) : (s.setFleetOps l).env = s.env := rfl
@[simp] theorem State.setFleetOps_responses (s : State) (l : List FleetOp) : (s.setFleetOps l).responses = s.responses := rfl
@[simp] theorem State.setFleetOps_log (s : State) (l : List FleetOp) : (s.setFleetOps l).log = s.log := rfl
@[simp] theorem State.setFleetOps_facade (s : State) (l : List FleetOp) : (s.setFleetOps l).facade = s.facade := rfl

/-! `setEnv` -/

@[simp] theorem State.setEnv_cfg (s : State) (e : Env) : (s.setEnv e).cfg = s.cfg := rfl
@[simp] theorem State.setEnv_fleet (s : State) (e : Env) : (s.setEnv e).fleet = s.fleet := rfl
@[simp] theorem State.setEnv_pins (s : State) (e : Env) : (s.setEnv e).pins = s.pins := rfl
@[simp] theorem State.setEnv_facadeClosed (s : State) (e : Env) : (s.setEnv e).facadeClosed = s.facadeClosed := rfl
@[simp] theorem State.setEnv_fleetOps (s : State) (e : Env) : (s.setEnv e).fleetOps = s.fleetOps := rfl
@[simp] theorem State.setEnv_subj (s : State) (e : Env) : (s.setEnv e).subj = s.subj := rfl
@[simp] theorem State.setEnv_stopRequested (s : State) (e : Env) : (s.setEnv e).stopRequested = s.stopRequested := rfl
@[simp] theorem State.setEnv_busy (s : State) (e : Env) : (s.setEnv e).busy = s.busy := rfl
@[simp] theorem State.setEnv_pos (s : State) (e : Env) : (s.setEnv e).pos = s.pos := rfl
@[simp] theorem State.setEnv_work (s : State) (e : Env) : (s.setEnv e).work = s.work := rfl
@[simp] theorem State.setEnv_env (s : State) (e : Env) : (s.setEnv e).env = e := rfl
@[simp] theorem State.setEnv_responses (s : State) (e : Env) : (s.setEnv e).responses = s.responses := rfl
@[simp] theorem State.setEnv_log (s : State) (e : Env) : (s.setEnv e).log = s.log := rfl
@[simp] theorem State.setEnv_facade (s : State) (e : Env) : (s.setEnv e).facade = s.facade := rfl

/-! `respond` -/

@[simp] theorem State.respond_cfg (s : State) (r : Response) : (s.respond r).cfg = s.cfg := rfl
@[simp] theorem State.respond_fleet (s : State) (r : Response) : (s.respond r).fleet = s.fleet := rfl
@[simp] theorem State.respond_pins (s : State) (r : Response) : (s.respond r).pins = s.pins := rfl
@[simp] theorem State.respond_facadeClosed (s : State) (r : Response) : (s.respond r).facadeClosed = s.facadeClosed := rfl
@[simp] theorem State.respond_fleetOps (s : State) (r : Response) : (s.respond r).fleetOps = s.fleetOps := rfl
@[simp] theorem State.respond_subj (s : State) (r : Response) : (s.respond r).subj = s.subj := rfl
@[simp] theorem State.respond_stopRequested (s : State) (r : Response) : (s.respond r).stopRequested = s.stopRequested := rfl
@[simp] theorem State.respond_busy (s : State) (r : Response) : (s.respond r).busy = s.busy := rfl
@[simp] theorem State.respond_pos (s : State) (r : Response) : (s.respond r).pos = s.pos := rfl
@[simp] theorem State.respond_work (s : State) (r : Response) : (s.respond r).work = s.work := rfl
@[simp] theorem State.respond_env (s : State) (r : Response) : (s.respond r).env = s.env := rfl
@[simp] theorem State.respond_responses (s : State) (r : Response) : (s.respond r).responses = r :: s.responses := rfl
@[simp] theorem State.respond_log (s : State) (r : Response) : (s.respond r).log = s.log := rfl
@[simp] theorem State.respond_facade (s : State) (r : Response) : (s.respond r).facade = s.facade := rfl

/-! `emit` -/

@[simp] theorem State.emit_cfg (s : State) (d : Diagnostic) : (s.emit d).cfg = s.cfg := rfl
@[simp] theorem State.emit_fleet (s : State) (d : Diagnostic) : (s.emit d).fleet = s.fleet := rfl
@[simp] theorem State.emit_pins (s : State) (d : Diagnostic) : (s.emit d).pins = s.pins := rfl
@[simp] theorem State.emit_facadeClosed (s : State) (d : Diagnostic) : (s.emit d).facadeClosed = s.facadeClosed := rfl
@[simp] theorem State.emit_fleetOps (s : State) (d : Diagnostic) : (s.emit d).fleetOps = s.fleetOps := rfl
@[simp] theorem State.emit_subj (s : State) (d : Diagnostic) : (s.emit d).subj = s.subj := rfl
@[simp] theorem State.emit_stopRequested (s : State) (d : Diagnostic) : (s.emit d).stopRequested = s.stopRequested := rfl
@[simp] theorem State.emit_busy (s : State) (d : Diagnostic) : (s.emit d).busy = s.busy := rfl
@[simp] theorem State.emit_pos (s : State) (d : Diagnostic) : (s.emit d).pos = s.pos := rfl
@[simp] theorem State.emit_work (s : State) (d : Diagnostic) : (s.emit d).work = s.work := rfl
@[simp] theorem State.emit_env (s : State) (d : Diagnostic) : (s.emit d).env = s.env := rfl
@[simp] theorem State.emit_responses (s : State) (d : Diagnostic) : (s.emit d).responses = s.responses := rfl
@[simp] theorem State.emit_log (s : State) (d : Diagnostic) : (s.emit d).log = d :: s.log := rfl
@[simp] theorem State.emit_facade (s : State) (d : Diagnostic) : (s.emit d).facade = s.facade := rfl

/-! `call` -/

@[simp] theorem State.call_cfg (s : State) (c : FacadeCall) : (s.call c).cfg = s.cfg := rfl
@[simp] theorem State.call_fleet (s : State) (c : FacadeCall) : (s.call c).fleet = s.fleet := rfl
@[simp] theorem State.call_pins (s : State) (c : FacadeCall) : (s.call c).pins = s.pins := rfl
@[simp] theorem State.call_facadeClosed (s : State) (c : FacadeCall) : (s.call c).facadeClosed = s.facadeClosed := rfl
@[simp] theorem State.call_fleetOps (s : State) (c : FacadeCall) : (s.call c).fleetOps = s.fleetOps := rfl
@[simp] theorem State.call_subj (s : State) (c : FacadeCall) : (s.call c).subj = s.subj := rfl
@[simp] theorem State.call_stopRequested (s : State) (c : FacadeCall) : (s.call c).stopRequested = s.stopRequested := rfl
@[simp] theorem State.call_busy (s : State) (c : FacadeCall) : (s.call c).busy = s.busy := rfl
@[simp] theorem State.call_pos (s : State) (c : FacadeCall) : (s.call c).pos = s.pos := rfl
@[simp] theorem State.call_work (s : State) (c : FacadeCall) : (s.call c).work = s.work := rfl
@[simp] theorem State.call_env (s : State) (c : FacadeCall) : (s.call c).env = s.env := rfl
@[simp] theorem State.call_responses (s : State) (c : FacadeCall) : (s.call c).responses = s.responses := rfl
@[simp] theorem State.call_log (s : State) (c : FacadeCall) : (s.call c).log = s.log := rfl
@[simp] theorem State.call_facade (s : State) (c : FacadeCall) : (s.call c).facade = c :: s.facade := rfl

/-! `raise` -/

@[simp] theorem State.raise_cfg (s : State) (e : Err) : (s.raise e).cfg = s.cfg := rfl
@[simp] theorem State.raise_fleet (s : State) (e : Err) : (s.raise e).fleet = s.fleet := rfl
@[simp] theorem State.raise_pins (s : State) (e : Err) : (s.raise e).pins = s.pins := rfl
@[simp] theorem State.raise_facadeClosed (s : State) (e : Err) : (s.raise e).facadeClosed = s.facadeClosed := rfl
@[simp] theorem State.raise_fleetOps (s : State) (e : Err) : (s.raise e).fleetOps = s.fleetOps := rfl
@[simp] theorem State.raise_subj (s : State) (e : Err) : (s.raise e).subj = s.subj := rfl
@[simp] theorem State.raise_stopRequested (s : State) (e : Err) : (s.raise e).stopRequested = s.stopRequested := rfl
@[simp] theorem State.raise_busy (s : State) (e : Err) : (s.raise e).busy = s.busy := rfl
@[simp] theorem State.raise_pos (s : State) (e : Err) : (s.raise e).pos = s.pos := rfl
@[simp] theorem State.raise_work (s : State) (e : Err) : (s.raise e).work = s.work := rfl
@[simp] theorem State.raise_env (s : State) (e : Err) : (s.raise e).env = s.env := rfl
@[simp] theorem State.raise_responses (s : State) (e : Err) : (s.raise e).responses = .error e :: s.responses := rfl
@[simp] theorem State.raise_log (s : State) (e : Err) : (s.raise e).log = s.log := rfl
@[simp] theorem State.raise_facade (s : State) (e : Err) : (s.raise e).facade = s.facade := rfl

/-! `setChan` -/

@[simp] theorem State.setChan_cfg (s : State) (c : Int) (ch : Channel) : (s.setChan c ch).cfg = s.cfg := rfl
@[simp] theorem State.setChan_fleet (s : State) (c : Int) (ch : Channel) : (s.setChan c ch).fleet = s.fleet.setIfInBounds (cardIndex c) (some ch) := rfl
@[simp] theorem State.setChan_pins (s : State) (c : Int) (ch : Channel) : (s.setChan c ch).pins = s.pins := rfl
@[simp] theorem State.setChan_facadeClosed (s : State) (c : Int) (ch : Channel) : (s.setChan c ch).facadeClosed = s.facadeClosed := rfl
@[simp] theorem State.setChan_fleetOps (s : State) (c : Int) (ch : Channel) : (s.setChan c ch).fleetOps = s.fleetOps := rfl
@[simp] theorem State.setChan_subj (s : State) (c : Int) (ch : Channel) : (s.setChan c ch).subj = s.subj := rfl
@[simp] theorem State.setChan_stopRequested (s : State) (c : Int) (ch : Channel) : (s.setChan c ch).stopRequested = s.stopRequested := rfl
@[simp] theorem State.setChan_busy (s : State) (c : Int) (ch : Channel) : (s.setChan c ch).busy = s.busy := rfl
@[simp] theorem State.setChan_pos (s : State) (c : Int) (ch : Channel) : (s.setChan c ch).pos = s.pos := rfl
@[simp] theorem State.setChan_work (s : State) (c : Int) (ch : Channel) : (s.setChan c ch).work = s.work := rfl
@[simp] theorem State.setChan_env (s : State) (c : Int) (ch : Channel) : (s.setChan c ch).env = s.env := rfl
@[simp] theorem State.setChan_responses (s : State) (c : Int) (ch : Channel) : (s.setChan c ch).responses = s.responses := rfl
@[simp] theorem State.setChan_log (s : State) (c : Int) (ch : Channel) : (s.setChan c ch).log = s.log := rfl
@[simp] theorem State.setChan_facade (s : State) (c : Int) (ch : Channel) : (s.setChan c ch).facade = s.facade := rfl

end Sys2Proof.Machine
end

