-- ==== Sys2Proof/Laws/Facade.lean ====
section
/-!
SUPPORT. What each operation over the facade can do: one lemma that says what it leaves alone, one that says what
it does when the facade answers well, one for its failure.
-/

namespace Sys2Proof.Machine

/-! ## Frames -/

theorem FacadeOnly.refl (s : State) : FacadeOnly s s := rfl

theorem FacadeOnly.trans {s t u : State} (h : FacadeOnly s t) (k : FacadeOnly t u) : FacadeOnly s u := by
  unfold FacadeOnly at *
  rw [k, h]

theorem FacadeOnly.cfg {s t : State} (h : FacadeOnly s t) : t.cfg = s.cfg := by rw [h]
theorem FacadeOnly.fleet {s t : State} (h : FacadeOnly s t) : t.fleet = s.fleet := by rw [h]
theorem FacadeOnly.facadeClosed {s t : State} (h : FacadeOnly s t) : t.facadeClosed = s.facadeClosed := by rw [h]
theorem FacadeOnly.subj {s t : State} (h : FacadeOnly s t) : t.subj = s.subj := by rw [h]
theorem FacadeOnly.stopRequested {s t : State} (h : FacadeOnly s t) : t.stopRequested = s.stopRequested := by rw [h]
theorem FacadeOnly.fleetOps {s t : State} (h : FacadeOnly s t) : t.fleetOps = s.fleetOps := by rw [h]
theorem FacadeOnly.busy {s t : State} (h : FacadeOnly s t) : t.busy = s.busy := by rw [h]
theorem FacadeOnly.pos {s t : State} (h : FacadeOnly s t) : t.pos = s.pos := by rw [h]
theorem FacadeOnly.work {s t : State} (h : FacadeOnly s t) : t.work = s.work := by rw [h]
theorem FacadeOnly.responses {s t : State} (h : FacadeOnly s t) : t.responses = s.responses := by rw [h]
theorem FacadeOnly.log {s t : State} (h : FacadeOnly s t) : t.log = s.log := by rw [h]
theorem FacadeOnly.now {s t : State} (h : FacadeOnly s t) : t.env.now = s.env.now := by rw [h]

theorem TraceGrows.refl (s : State) : TraceGrows s s := ⟨[], rfl, by simp⟩

theorem TraceGrows.trans {s t u : State} (h : TraceGrows s t) (k : TraceGrows t u)
    (hn : t.env.now = s.env.now) : TraceGrows s u := by
  obtain ⟨l, hl, hl'⟩ := h
  obtain ⟨m, hm, hm'⟩ := k
  refine ⟨m ++ l, by simp [hm, hl], fun c hc => ?_⟩
  rcases List.mem_append.1 hc with hc | hc
  · exact (hm' c hc).trans hn
  · exact hl' c hc

/-! ## One call -/

/-- A write touches the facade only, puts one call in the trace and keeps the pin memory's form. -/
theorem digitalWrite_frame (p : FacadePin) (l : Bool) (s : State) :
    FacadeOnly s (digitalWrite p l s).2 ∧ TraceGrows s (digitalWrite p l s).2 ∧
      (s.pins.wf → (digitalWrite p l s).2.pins.wf) := by
  refine ⟨?_, ⟨[_], rfl, by simp [FacadeCall.time]⟩, fun h => ?_⟩
  · unfold FacadeOnly digitalWrite Env.drawWrite
    split
    · rfl
    · cases hw : s.env.writes <;> simp [State.setEnv, State.setPins, State.call]
  · have key : ∀ b : Bool, (if b = true then Memory.write p l s.pins else Memory.erase p s.pins).wf := by
      intro b
      cases b
      · exact Memory.wf_erase _ h
      · exact Memory.wf_write _ _ h
    exact key _

/-- What a pin holds after a write: the level if the write succeeded, no value if it failed; every other pin holds
what it held (R36, R277). -/
theorem digitalWrite_fp (p : FacadePin) (l : Bool) (s : State) (q : FacadePin) :
    (digitalWrite p l s).2.fp q =
      if q = p then (if (digitalWrite p l s).1 = true then some l else none) else s.fp q := by
  have key : ∀ b : Bool, Memory.read q (if b = true then Memory.write p l s.pins else Memory.erase p s.pins) =
      if q = p then (if b = true then some l else none) else Memory.read q s.pins := by
    intro b
    cases b <;> simp [Memory.read_write, Memory.read_erase]
  exact key _

/-- A write the facade lets succeed. -/
theorem digitalWrite_good {s : State} {n : Nat} (h : s.writesSucceed (n + 1)) (p : FacadePin) (l : Bool) :
    digitalWrite p l s = (true,
      { s with
        pins := Memory.write p l s.pins
        env := { s.env with writes := s.env.writes.drop 1 }
        facade := .dw s.env.now p l true :: s.facade }) ∧
    (digitalWrite p l s).2.writesSucceed n := by
  obtain ⟨hc, hw⟩ := h
  cases hl : s.env.writes with
  | nil => simp [hl, List.replicate_succ] at hw
  | cons b r =>
    simp only [hl, List.take_succ_cons, List.replicate_succ, List.cons.injEq] at hw
    obtain ⟨rfl, hr⟩ := hw
    simp [digitalWrite, hc, Env.drawWrite, hl, State.setEnv, State.setPins, State.call, State.writesSucceed, hr]

/-- A read touches the facade only, and no pin. -/
theorem analogRead_frame (p : FacadePin) (s : State) :
    FacadeOnly s (analogRead p s).2 ∧ TraceGrows s (analogRead p s).2 ∧ (analogRead p s).2.pins = s.pins := by
  refine ⟨?_, ⟨[_], rfl, by simp [FacadeCall.time]⟩, rfl⟩
  unfold FacadeOnly analogRead Env.drawRead
  split
  · rfl
  · cases hw : s.env.reads <;> simp [State.setEnv, State.call]

/-- A read the facade answers. -/
theorem analogRead_listed {s : State} {v : Option Volts} {r : List (Option Volts)} (hc : s.facadeClosed = false)
    (h : s.env.reads = v :: r) (p : FacadePin) :
    analogRead p s = (v,
      { s with env := { s.env with reads := r }, facade := .ar s.env.now p v :: s.facade }) := by
  simp [analogRead, hc, Env.drawRead, h, State.setEnv, State.call]

/-! ## Runs of writes -/

/-- Writing a list of pins, every one of them. -/
def Memory.writeAll (l : Bool) (ps : List FacadePin) (m : Memory) : Memory :=
  ps.foldl (fun m p => Memory.write p l m) m

theorem Memory.read_writeAll (l : Bool) (ps : List FacadePin) (m : Memory) (q : FacadePin) :
    Memory.read q (Memory.writeAll l ps m) = if q ∈ ps then some l else Memory.read q m := by
  induction ps generalizing m with
  | nil => simp [Memory.writeAll]
  | cons p ps ih =>
    have := ih (Memory.write p l m)
    simp only [Memory.writeAll, List.foldl_cons] at this ⊢
    rw [this, Memory.read_write]
    by_cases hq : q ∈ ps <;> by_cases hp : q = p <;> simp [hq, hp]

theorem Memory.wf_writeAll (l : Bool) (ps : List FacadePin) {m : Memory} (h : m.wf) : (Memory.writeAll l ps m).wf := by
  induction ps generalizing m with
  | nil => exact h
  | cons p ps ih => exact ih (Memory.wf_write p l h)

/-- The state after writing these pins, each write succeeding. -/
def State.wrote (s : State) (level : Bool) (ps : List FacadePin) : State :=
  { s with
    pins := Memory.writeAll level ps s.pins
    env := { s.env with writes := s.env.writes.drop ps.length }
    facade := writeCalls s.env.now level ps ++ s.facade }

theorem State.wrote_fp (s : State) (level : Bool) (ps : List FacadePin) (q : FacadePin) :
    (s.wrote level ps).fp q = if q ∈ ps then some level else s.fp q := Memory.read_writeAll _ _ _ _

theorem drivePins_frame (l : Bool) (ps : List FacadePin) (s : State) :
    FacadeOnly s (drivePins l ps s).2 ∧ TraceGrows s (drivePins l ps s).2 ∧
      (s.pins.wf → (drivePins l ps s).2.pins.wf) := by
  induction ps generalizing s with
  | nil => exact ⟨.refl s, .refl s, id⟩
  | cons p ps ih =>
    obtain ⟨h1, h2, h3⟩ := digitalWrite_frame p l s
    simp only [drivePins]
    split
    · obtain ⟨k1, k2, k3⟩ := ih (digitalWrite p l s).2
      exact ⟨h1.trans k1, h2.trans k2 h1.now, fun h => k3 (h3 h)⟩
    · exact ⟨h1, h2, h3⟩

theorem drivePins_good (l : Bool) (ps : List FacadePin) {s : State} (h : s.writesSucceed ps.length) :
    drivePins l ps s = (true, s.wrote l ps) := by
  induction ps generalizing s with
  | nil => rfl
  | cons p ps ih =>
    obtain ⟨h1, h2⟩ := digitalWrite_good (s := s) (n := ps.length) h p l
    simp only [drivePins, h1, if_true] at h2 ⊢
    rw [ih h2]
    simp [State.wrote, writeCalls, Memory.writeAll]

theorem restorePins_frame (ps : List FacadePin) (s : State) :
    FacadeOnly s (restorePins ps s) ∧ TraceGrows s (restorePins ps s) ∧
      (s.pins.wf → (restorePins ps s).pins.wf) := by
  induction ps generalizing s with
  | nil => exact ⟨.refl s, .refl s, id⟩
  | cons p ps ih =>
    obtain ⟨h1, h2, h3⟩ := digitalWrite_frame p false s
    obtain ⟨k1, k2, k3⟩ := ih (digitalWrite p false s).2
    exact ⟨h1.trans k1, h2.trans k2 h1.now, fun h => k3 (h3 h)⟩

theorem restorePins_good (ps : List FacadePin) {s : State} (h : s.writesSucceed ps.length) :
    restorePins ps s = s.wrote false ps := by
  induction ps generalizing s with
  | nil => rfl
  | cons p ps ih =>
    obtain ⟨h1, h2⟩ := digitalWrite_good (s := s) (n := ps.length) h p false
    simp only [restorePins]
    rw [ih h2, h1]
    simp [State.wrote, writeCalls, Memory.writeAll]

/-- After a cleanup no pin it names is HIGH: it is LOW, or its write failed and it holds no value (R229, R230). -/
theorem restorePins_not_high (ps : List FacadePin) (s : State) {q : FacadePin} (h : q ∈ ps ∨ s.fp q ≠ some true) :
    (restorePins ps s).fp q ≠ some true := by
  induction ps generalizing s with
  | nil => simpa [restorePins] using h
  | cons p ps ih =>
    refine ih (digitalWrite p false s).2 ?_
    rw [digitalWrite_fp]
    by_cases hq : q = p
    · right; simp only [hq, if_true]; split <;> simp
    · rcases h with h | h
      · exact .inl ((List.mem_cons.1 h).resolve_left hq)
      · right; simpa [hq] using h

/-! ## Control lines -/

theorem driveLines_frame (l : Bool) (is : List (Fin 16)) (s : State) :
    FacadeOnly s (driveLines l is s).2 ∧ TraceGrows s (driveLines l is s).2 ∧
      (s.pins.wf → (driveLines l is s).2.pins.wf) := by
  induction is generalizing s with
  | nil => exact ⟨.refl s, .refl s, id⟩
  | cons i is ih =>
    obtain ⟨h1, h2, h3⟩ := digitalWrite_frame s.cfg.linePin[i] l s
    simp only [driveLines]
    split
    · obtain ⟨k1, k2, k3⟩ := ih (digitalWrite s.cfg.linePin[i] l s).2
      exact ⟨h1.trans k1, h2.trans k2 h1.now, fun h => k3 (h3 h)⟩
    · exact ⟨h1, h2, h3⟩

theorem driveLines_good (l : Bool) (is : List (Fin 16)) {s : State} (h : s.writesSucceed is.length) :
    driveLines l is s = (none, s.wrote l (is.map fun i => s.cfg.linePin[i])) := by
  induction is generalizing s with
  | nil => rfl
  | cons i is ih =>
    obtain ⟨h1, h2⟩ := digitalWrite_good (s := s) (n := is.length) h s.cfg.linePin[i] l
    simp only [driveLines, h1, if_true] at h2 ⊢
    rw [ih h2]
    simp [State.wrote, writeCalls, Memory.writeAll]

/-- A router operation that stops at a failing write: the writes before it have taken effect (R208). -/
theorem driveLines_append (l : Bool) (is js : List (Fin 16)) (s : State) (h : (driveLines l is s).1 = none) :
    driveLines l (is ++ js) s = driveLines l js (driveLines l is s).2 := by
  induction is generalizing s with
  | nil => rfl
  | cons i is ih =>
    simp only [List.cons_append, driveLines] at h ⊢
    split at h
    · rename_i hw
      rw [if_pos hw, if_pos hw]
      exact ih _ h
    · simp at h

theorem routePin_frame (pin : Int) (sch : Scheme) (s : State) :
    FacadeOnly s (routePin pin sch s).2 ∧ TraceGrows s (routePin pin sch s).2 ∧
      (s.pins.wf → (routePin pin sch s).2.pins.wf) := by
  unfold routePin
  split
  · exact ⟨.refl s, .refl s, id⟩
  · exact driveLines_frame _ _ s

theorem clearAllLines_frame (s : State) :
    FacadeOnly s (clearAllLines s).2 ∧ TraceGrows s (clearAllLines s).2 ∧
      (s.pins.wf → (clearAllLines s).2.pins.wf) := driveLines_frame _ _ s

theorem clearBitLines_frame (p : Pattern) (s : State) :
    FacadeOnly s (clearBitLines p s).2 ∧ TraceGrows s (clearBitLines p s).2 ∧
      (s.pins.wf → (clearBitLines p s).2.pins.wf) := driveLines_frame _ _ s

theorem routeClean_frame (pin : Int) (sch : Scheme) (s : State) :
    FacadeOnly s (routeClean pin sch s).2 ∧ TraceGrows s (routeClean pin sch s).2 ∧
      (s.pins.wf → (routeClean pin sch s).2.pins.wf) := by
  obtain ⟨h1, h2, h3⟩ := clearAllLines_frame s
  simp only [routeClean]
  split
  · exact ⟨h1, h2, h3⟩
  · obtain ⟨k1, k2, k3⟩ := routePin_frame pin sch (clearAllLines s).2
    exact ⟨h1.trans k1, h2.trans k2 h1.now, fun h => k3 (h3 h)⟩

theorem restoreLines_frame (s : State) :
    FacadeOnly s (restoreLines s) ∧ TraceGrows s (restoreLines s) ∧
      (s.pins.wf → (restoreLines s).pins.wf) := restorePins_frame _ s

/-- After the `clearAll()` of a cleanup no control line is HIGH (R229). -/
theorem restoreLines_not_high (s : State) (i : Fin 16) : (restoreLines s).line i ≠ some true := by
  have hc : (restoreLines s).cfg = s.cfg := (restoreLines_frame s).1.cfg
  unfold State.line
  rw [hc]
  refine restorePins_not_high _ _ (.inl ?_)
  rw [Vector.mem_toList_iff]
  exact Vector.getElem_mem _

/-! ## When the facade answers well -/

/-- Writes that succeed, in two parts. -/
theorem State.writesSucceed_split {s : State} {a b : Nat} (h : s.writesSucceed (a + b)) (l : Bool)
    (ps : List FacadePin) (hl : ps.length = a) : s.writesSucceed a ∧ (s.wrote l ps).writesSucceed b := by
  refine ⟨⟨h.1, ?_⟩, h.1, ?_⟩
  · have := congrArg (List.take a) h.2
    simpa [List.take_take] using this
  · have := congrArg (List.drop a) h.2
    simp only [State.wrote, hl]
    rw [List.drop_take] at this
    simpa using this

/-- A pin with an entry in its scheme's table has that pattern (R200, R201). -/
theorem lookupPattern_entry {cfg : Cfg} {pin : Nat} {sch : Scheme} {p : Pattern} (h : 1 ≤ pin)
    (ht : tableEntry cfg pin sch = some p) : lookupPattern cfg pin sch = .ok p := by
  have hp : pin ≤ 50 := by
    cases sch <;> simp only [tableEntry] at ht <;> obtain ⟨h1, -⟩ := Vector.getElem?_eq_some_iff.1 ht <;> omega
  have hh : 1 ≤ (pin : Int) ∧ (pin : Int) ≤ 50 := by omega
  have e : ((pin : Int) - 1).toNat = pin - 1 := by omega
  cases sch <;> simp only [tableEntry] at ht <;> obtain ⟨_, h2⟩ := Vector.getElem?_eq_some_iff.1 ht <;>
    simp [lookupPattern, hh, tablePattern, e, h2]

theorem linePins_length (cfg : Cfg) (p : Pattern) : (linePins cfg p).length = (patternLines p).length := by
  simp [linePins]

theorem routePin_good {pin : Nat} {sch : Scheme} {p : Pattern} {s : State} (h : 1 ≤ pin)
    (ht : tableEntry s.cfg pin sch = some p) (hw : s.writesSucceed (patternLines p).length) :
    routePin pin sch s = (none, s.wrote true (linePins s.cfg p)) := by
  simp only [routePin, lookupPattern_entry h ht, driveLines_good _ _ hw]
  rfl

theorem clearAllLines_good {s : State} (hw : s.writesSucceed 16) :
    clearAllLines s = (none, s.wrote false s.cfg.linePin.toList) := by
  have hw' : s.writesSucceed (List.finRange 16).length := by simpa using hw
  have hl : (List.finRange 16).map (fun i => s.cfg.linePin[i]) = s.cfg.linePin.toList := by
    apply List.ext_getElem <;> simp
  simp only [clearAllLines, driveLines_good _ _ hw', hl]

theorem restoreLines_good {s : State} (hw : s.writesSucceed 16) :
    restoreLines s = s.wrote false s.cfg.linePin.toList :=
  restorePins_good _ (by simpa using hw)

end Sys2Proof.Machine
end

