-- ==== Sys2Proof/Laws/Fleet.lean ====
section
/-!
SUPPORT. Register bits, the fleet map after an update, and what each fleet operation can do.
-/

namespace Sys2Proof.Machine

/-! ## Bits -/

/-- Setting a bit gives that bit and leaves every other (R103, R132). -/
theorem setBit_getLsbD {w : Nat} (x : BitVec w) (k : Nat) (b : Bool) (j : Nat) :
    (setBit x k b).getLsbD j = if j = k ∧ k < w then b else x.getLsbD j := by
  unfold setBit
  by_cases hj : j = k
  · subst hj
    by_cases hw : j < w
    · cases b <;> simp [hw]
    · have hx := BitVec.getLsbD_of_ge x j (Nat.le_of_not_lt hw)
      cases b <;> simp [hw, hx]
  · cases b <;> simp [hj, Ne.symm hj] <;> intro h <;> exact BitVec.lt_of_getLsbD h

/-- The last of two writes of one bit stands (R132 (b), (c), R138, R161). -/
theorem setBit_setBit {w : Nat} (x : BitVec w) (k : Nat) (a b : Bool) :
    setBit (setBit x k a) k b = setBit x k b := by
  apply BitVec.eq_of_getLsbD_eq
  intro j _
  simp only [setBit_getLsbD]
  split <;> rfl

/-- Writes of different bits commute (R132 (d), R138, R161). -/
theorem setBit_comm {w : Nat} (x : BitVec w) {k j : Nat} (h : k ≠ j) (a b : Bool) :
    setBit (setBit x k a) j b = setBit (setBit x j b) k a := by
  apply BitVec.eq_of_getLsbD_eq
  intro i _
  simp only [setBit_getLsbD]
  by_cases hi : i = j
  · simp [hi, Ne.symm h]
  · simp [hi]

/-! ## The receive buffer -/

/-- A payload is a receive buffer exactly when it has 64 bytes, and the buffer holds it whole (R73, R152, R161). -/
theorem toRxBuffer_eq_some {d : Datagram} {b : RxBuffer} : toRxBuffer d = some b ↔ b.toList = d := by
  unfold toRxBuffer
  constructor
  · intro h
    split at h
    · simp only [Option.some.injEq] at h
      subst h
      rfl
    · simp at h
  · intro h
    have hl : d.length = 64 := by rw [← h]; simp
    rw [dif_pos hl, Option.some.injEq]
    apply Vector.toArray_inj.1
    subst h
    rfl

theorem toRxBuffer_eq_none {d : Datagram} : toRxBuffer d = none ↔ d.length ≠ 64 := by
  unfold toRxBuffer
  split <;> simp_all

/-! ## The fleet map -/

theorem cardIndex_lt {c : Int} (h : 1 ≤ c ∧ c ≤ 7) : cardIndex c < 7 := by unfold cardIndex; omega

theorem cardIndex_inj {c d : Int} (hc : 1 ≤ c ∧ c ≤ 7) (hd : 1 ≤ d ∧ d ≤ 7) (h : cardIndex c = cardIndex d) :
    c = d := by
  unfold cardIndex at h; omega

/-- A channel stands only at a card id 1..7 (R38, R186). -/
theorem State.chan_bounds {s : State} {c : Int} {ch : Channel} (h : s.chan c = some ch) : 1 ≤ c ∧ c ≤ 7 := by
  unfold State.chan at h
  split at h
  · assumption
  · simp at h

theorem State.chan_outside (s : State) {c : Int} (h : ¬(1 ≤ c ∧ c ≤ 7)) : s.chan c = none := by
  simp [State.chan, h]

theorem State.chan_eq_fleet (s : State) {c : Int} (h : 1 ≤ c ∧ c ≤ 7) :
    s.chan c = s.fleet[cardIndex c]'(cardIndex_lt h) := by
  have := cardIndex_lt h
  simp [State.chan, h, this]

/-- The channel of card `k + 1` is the entry `k`. -/
theorem State.chan_succ (s : State) (k : Nat) (h : k < 7) : s.chan ((k : Int) + 1) = s.fleet[k] := by
  have h1 : 1 ≤ (k : Int) + 1 ∧ (k : Int) + 1 ≤ 7 := by omega
  rw [State.chan_eq_fleet s h1]
  congr 1
  unfold cardIndex; omega

/-- Two states with the same fleet map have the same channels. -/
theorem State.chan_congr {s t : State} (h : t.fleet = s.fleet) (c : Int) : t.chan c = s.chan c := by
  unfold State.chan; rw [h]

/-- The fleet map after a channel was written (R79, R132). -/
theorem State.chan_setChan (s : State) {c : Int} (hc : 1 ≤ c ∧ c ≤ 7) (ch : Channel) (d : Int) :
    (s.setChan c ch).chan d = if d = c then some ch else s.chan d := by
  by_cases hd : 1 ≤ d ∧ d ≤ 7
  · rw [State.chan_eq_fleet _ hd, State.chan_eq_fleet s hd]
    simp only [State.setChan, State.setFleet_fleet, Vector.getElem_setIfInBounds]
    by_cases h : d = c
    · simp [h]
    · have hne : cardIndex c ≠ cardIndex d := fun e => h (cardIndex_inj hc hd e).symm
      simp [h, hne]
  · have : d ≠ c := fun e => hd (e ▸ hc)
    simp [State.chan_outside _ hd, this]

theorem State.fleet_setChan (s : State) (c : Int) (ch : Channel) (k : Nat) (hk : k < 7) :
    (s.setChan c ch).fleet[k] = if cardIndex c = k then some ch else s.fleet[k] := by
  simp [State.setChan, Vector.getElem_setIfInBounds]

/-- Writing a channel back changes nothing. -/
theorem State.setChan_self {s : State} {c : Int} {ch : Channel} (h : s.chan c = some ch) : s.setChan c ch = s := by
  have hc := State.chan_bounds h
  rw [State.chan_eq_fleet s hc] at h
  cases s
  simp only [State.setChan, State.setFleet, State.mk.injEq, true_and, and_true]
  ext k hk
  simp only [Vector.getElem_setIfInBounds]
  split
  · rename_i e
    subst e
    simp_all
  · simp

/-! ## Setters -/

/-- A setter through the fleet: `absent` and nothing written; an error and nothing written; or `ok` and the frame
registers of that channel only (R186, R279). -/
theorem fleetSet_cases (c : Int) (f : SendRegs → Except Err SendRegs) (s : State) :
    (s.chan c = none ∧ fleetSet c f s = (.absent, s)) ∨
    (∃ ch e, s.chan c = some ch ∧ f ch.sf = .error e ∧ fleetSet c f s = (.error e, s)) ∨
    (∃ ch r, s.chan c = some ch ∧ f ch.sf = .ok r ∧ fleetSet c f s = (.ok, s.setChan c { ch with sf := r })) := by
  unfold fleetSet
  cases hc : s.chan c with
  | none => exact .inl ⟨rfl, rfl⟩
  | some ch =>
    cases hf : f ch.sf with
    | error e => exact .inr (.inl ⟨ch, e, rfl, hf, by simp [hf]⟩)
    | ok r => exact .inr (.inr ⟨ch, r, rfl, hf, by simp [hf]⟩)

/-- Setting an analog output: as a setter, after at most one draw of a tie (R108, R145). -/
theorem fleetSetAnalog_cases (c n : Int) (v : Volts) (s : State) :
    ∃ up e, (e = s.env ∨ e = s.env.drawTie.2) ∧
      fleetSetAnalog c n v s = fleetSet c (SendRegs.setAnalog s.cfg.roundTie up n v) (s.setEnv e) := by
  unfold fleetSetAnalog
  split
  · exact ⟨_, _, .inr rfl, rfl⟩
  · exact ⟨false, s.env, .inl rfl, rfl⟩

/-- A draw of a tie changes the draws only. -/
theorem Env.drawTie_frame (e : Env) : e.drawTie.2 = { e with draws := e.drawTie.2.draws, ties := e.drawTie.2.ties } := by
  unfold Env.drawTie
  cases e.ties <;> rfl

theorem Env.drawBind_frame (e : Env) :
    e.drawBind.2 = { e with draws := e.drawBind.2.draws, binds := e.drawBind.2.binds } := by
  unfold Env.drawBind
  cases e.binds <;> rfl

theorem Env.drawSend_frame (e : Env) :
    e.drawSend.2 = { e with draws := e.drawSend.2.draws, sends := e.drawSend.2.sends } := by
  unfold Env.drawSend
  cases e.sends <;> rfl

theorem Env.takeDatagram_frame (c : Int) (e : Env) :
    (e.takeDatagram c).2 = { e with draws := (e.takeDatagram c).2.draws, rxWire := (e.takeDatagram c).2.rxWire } := by
  unfold Env.takeDatagram
  split <;> rfl

/-- The datagram taken when one is in flight is the oldest. -/
theorem Env.takeDatagram_listed {e : Env} {c : Int} {d : Datagram} {l : List Datagram}
    (h : e.rxWire[cardIndex c]?.getD [] = d :: l) :
    e.takeDatagram c = (d, { e with rxWire := e.rxWire.setIfInBounds (cardIndex c) l }) := by
  simp [Env.takeDatagram, h]

/-! ## start and stop -/

/-- What `start()` can do (R171). -/
theorem startChannel_cases (c : Int) (ch : Channel) (s : State) :
    (ch.run = .running ∧ startChannel c ch s = (true, s)) ∨
    ((ch.run = .stopped ∨ ch.run = .failed) ∧ startChannel c ch s = (false, s)) ∨
    (ch.run = .created ∧ s.env.drawBind.1 = true ∧ startChannel c ch s = (true,
      (s.setEnv s.env.drawBind.2).setChan c { ch with run := .running, startedAt := some s.env.now })) ∨
    (ch.run = .created ∧ s.env.drawBind.1 = false ∧ startChannel c ch s = (false,
      ((s.setEnv s.env.drawBind.2).setChan c { ch with run := .failed }).emit (.bindFailure ch.id))) := by
  unfold startChannel
  cases hr : ch.run with
  | created => cases hb : s.env.drawBind.1 <;> simp [hb]
  | running => simp
  | stopped => simp
  | failed => simp

/-- What one card of `startAll()` can do (R171, R188). -/
theorem startCard_cases (c : Nat) (s : State) :
    (s.chan c = none ∧ startCard c s = ([], s)) ∨
    (∃ ch, s.chan c = some ch ∧ startCard c s = ([(c, (startChannel c ch s).1)], (startChannel c ch s).2)) := by
  unfold startCard
  cases h : s.chan c with
  | none => simp
  | some ch => simp

/-- `start()` leaves the operations in progress alone. -/
theorem startChannel_fleetOps (c : Int) (ch : Channel) (s : State) :
    (startChannel c ch s).2.fleetOps = s.fleetOps := by
  rcases startChannel_cases c ch s with ⟨-, h⟩ | ⟨-, h⟩ | ⟨-, -, h⟩ | ⟨-, -, h⟩ <;> simp [h]

/-- What one card of `stop()` leaves in the fleet map (R172, R189). -/
theorem fleetStop_chan (c d : Int) (s : State) :
    (fleetStop c s).2.chan d = if d = c then (s.chan c).map Channel.stopped else s.chan d := by
  unfold fleetStop
  cases h : s.chan c with
  | none => by_cases hd : d = c <;> simp [hd, h]
  | some ch =>
    simp only [State.chan_setChan s (State.chan_bounds h), Option.map_some]

/-- A card of an operation in progress leaves the operations in progress alone. -/
theorem FleetOp.takeCard_fleetOps (op : FleetOp) (s : State) : (op.takeCard s).2.fleetOps = s.fleetOps := by
  unfold FleetOp.takeCard
  split
  · rcases startCard_cases op.next s with ⟨-, h⟩ | ⟨ch, -, h⟩ <;> simp [h, startChannel_fleetOps]
  · simp only [fleetStop]
    split <;> simp

/-- What a turn of a caller can do: nothing, without such an operation; one card of it; or its last card, with the
response (R16, R188, R189). -/
theorem callerStep_cases (k : Nat) (s : State) :
    (s.fleetOps[k]? = none ∧ callerStep k s = s) ∨
    ∃ op, s.fleetOps[k]? = some op ∧
      ((op.next < 7 ∧
          callerStep k s = (op.takeCard s).2.setFleetOps (s.fleetOps.set k (op.takeCard s).1)) ∨
        (7 ≤ op.next ∧ callerStep k s =
          ((op.takeCard s).2.setFleetOps (s.fleetOps.eraseIdx k)).respond (op.takeCard s).1.response)) := by
  unfold callerStep
  cases h : s.fleetOps[k]? with
  | none => simp
  | some op =>
    have hn : (op.takeCard s).1.next = op.next + 1 := by unfold FleetOp.takeCard; split <;> rfl
    simp only [hn, FleetOp.takeCard_fleetOps, Option.some.injEq, exists_eq_left']
    by_cases h7 : op.next < 7
    · exact .inr (.inl ⟨h7, if_pos (by omega)⟩)
    · exact .inr (.inr ⟨by omega, if_neg (by omega)⟩)

end Sys2Proof.Machine
end

