-- ==== Sys2Proof/Laws/Pipeline.lean ====
section
/-!
SUPPORT. What each move along a pipeline of the engine leaves in each field, true by definition.
-/

namespace Sys2Proof.Machine

/-! `goto` -/

@[simp] theorem State.goto_cfg (s : State) (k : Nat) : (s.goto k).cfg = s.cfg := rfl
@[simp] theorem State.goto_fleet (s : State) (k : Nat) : (s.goto k).fleet = s.fleet := rfl
@[simp] theorem State.goto_pins (s : State) (k : Nat) : (s.goto k).pins = s.pins := rfl
@[simp] theorem State.goto_facadeClosed (s : State) (k : Nat) : (s.goto k).facadeClosed = s.facadeClosed := rfl
@[simp] theorem State.goto_fleetOps (s : State) (k : Nat) : (s.goto k).fleetOps = s.fleetOps := rfl
@[simp] theorem State.goto_subj (s : State) (k : Nat) : (s.goto k).subj = s.subj := rfl
@[simp] theorem State.goto_stopRequested (s : State) (k : Nat) : (s.goto k).stopRequested = s.stopRequested := rfl
@[simp] theorem State.goto_busy (s : State) (k : Nat) : (s.goto k).busy = s.busy := rfl
@[simp] theorem State.goto_pos (s : State) (k : Nat) : (s.goto k).pos = { s.pos with step := k } := rfl
@[simp] theorem State.goto_work (s : State) (k : Nat) : (s.goto k).work = { s.work with sub := 0 } := rfl
@[simp] theorem State.goto_env (s : State) (k : Nat) : (s.goto k).env = s.env := rfl
@[simp] theorem State.goto_responses (s : State) (k : Nat) : (s.goto k).responses = s.responses := rfl
@[simp] theorem State.goto_log (s : State) (k : Nat) : (s.goto k).log = s.log := rfl
@[simp] theorem State.goto_facade (s : State) (k : Nat) : (s.goto k).facade = s.facade := rfl

/-! `sleep` -/

@[simp] theorem State.sleep_cfg (s : State) (t : Time) : (s.sleep t).cfg = s.cfg := rfl
@[simp] theorem State.sleep_fleet (s : State) (t : Time) : (s.sleep t).fleet = s.fleet := rfl
@[simp] theorem State.sleep_pins (s : State) (t : Time) : (s.sleep t).pins = s.pins := rfl
@[simp] theorem State.sleep_facadeClosed (s : State) (t : Time) : (s.sleep t).facadeClosed = s.facadeClosed := rfl
@[simp] theorem State.sleep_fleetOps (s : State) (t : Time) : (s.sleep t).fleetOps = s.fleetOps := rfl
@[simp] theorem State.sleep_subj (s : State) (t : Time) : (s.sleep t).subj = s.subj := rfl
@[simp] theorem State.sleep_stopRequested (s : State) (t : Time) : (s.sleep t).stopRequested = s.stopRequested := rfl
@[simp] theorem State.sleep_busy (s : State) (t : Time) : (s.sleep t).busy = s.busy := rfl
@[simp] theorem State.sleep_pos (s : State) (t : Time) : (s.sleep t).pos = s.pos := rfl
@[simp] theorem State.sleep_work (s : State) (t : Time) : (s.sleep t).work = { s.work with wake := some (s.env.now + t) } := rfl
@[simp] theorem State.sleep_env (s : State) (t : Time) : (s.sleep t).env = s.env := rfl
@[simp] theorem State.sleep_responses (s : State) (t : Time) : (s.sleep t).responses = s.responses := rfl
@[simp] theorem State.sleep_log (s : State) (t : Time) : (s.sleep t).log = s.log := rfl
@[simp] theorem State.sleep_facade (s : State) (t : Time) : (s.sleep t).facade = s.facade := rfl

/-! `nextPart` -/

@[simp] theorem State.nextPart_cfg (s : State) : s.nextPart.cfg = s.cfg := rfl
@[simp] theorem State.nextPart_fleet (s : State) : s.nextPart.fleet = s.fleet := rfl
@[simp] theorem State.nextPart_pins (s : State) : s.nextPart.pins = s.pins := rfl
@[simp] theorem State.nextPart_facadeClosed (s : State) : s.nextPart.facadeClosed = s.facadeClosed := rfl
@[simp] theorem State.nextPart_fleetOps (s : State) : s.nextPart.fleetOps = s.fleetOps := rfl
@[simp] theorem State.nextPart_subj (s : State) : s.nextPart.subj = s.subj := rfl
@[simp] theorem State.nextPart_stopRequested (s : State) : s.nextPart.stopRequested = s.stopRequested := rfl
@[simp] theorem State.nextPart_busy (s : State) : s.nextPart.busy = s.busy := rfl
@[simp] theorem State.nextPart_pos (s : State) : s.nextPart.pos = s.pos := rfl
@[simp] theorem State.nextPart_work (s : State) : s.nextPart.work = { s.work with sub := s.work.sub + 1 } := rfl
@[simp] theorem State.nextPart_env (s : State) : s.nextPart.env = s.env := rfl
@[simp] theorem State.nextPart_responses (s : State) : s.nextPart.responses = s.responses := rfl
@[simp] theorem State.nextPart_log (s : State) : s.nextPart.log = s.log := rfl
@[simp] theorem State.nextPart_facade (s : State) : s.nextPart.facade = s.facade := rfl

/-! `verdict` -/

@[simp] theorem State.verdict_cfg (s : State) (p : Bool) (r : Reason) : (s.verdict p r).cfg = s.cfg := rfl
@[simp] theorem State.verdict_fleet (s : State) (p : Bool) (r : Reason) : (s.verdict p r).fleet = s.fleet := rfl
@[simp] theorem State.verdict_pins (s : State) (p : Bool) (r : Reason) : (s.verdict p r).pins = s.pins := rfl
@[simp] theorem State.verdict_facadeClosed (s : State) (p : Bool) (r : Reason) : (s.verdict p r).facadeClosed = s.facadeClosed := rfl
@[simp] theorem State.verdict_fleetOps (s : State) (p : Bool) (r : Reason) : (s.verdict p r).fleetOps = s.fleetOps := rfl
@[simp] theorem State.verdict_subj (s : State) (p : Bool) (r : Reason) : (s.verdict p r).subj = s.subj := rfl
@[simp] theorem State.verdict_stopRequested (s : State) (p : Bool) (r : Reason) : (s.verdict p r).stopRequested = s.stopRequested := rfl
@[simp] theorem State.verdict_busy (s : State) (p : Bool) (r : Reason) : (s.verdict p r).busy = s.busy := rfl
@[simp] theorem State.verdict_pos (s : State) (p : Bool) (r : Reason) : (s.verdict p r).pos = s.pos := rfl
@[simp] theorem State.verdict_work (s : State) (p : Bool) (r : Reason) : (s.verdict p r).work = { s.work with pass := p, reason := r } := rfl
@[simp] theorem State.verdict_env (s : State) (p : Bool) (r : Reason) : (s.verdict p r).env = s.env := rfl
@[simp] theorem State.verdict_responses (s : State) (p : Bool) (r : Reason) : (s.verdict p r).responses = s.responses := rfl
@[simp] theorem State.verdict_log (s : State) (p : Bool) (r : Reason) : (s.verdict p r).log = s.log := rfl
@[simp] theorem State.verdict_facade (s : State) (p : Bool) (r : Reason) : (s.verdict p r).facade = s.facade := rfl

/-! `failTo` -/

@[simp] theorem State.failTo_cfg (s : State) (r : Reason) (k : Nat) : (s.failTo r k).cfg = s.cfg := rfl
@[simp] theorem State.failTo_fleet (s : State) (r : Reason) (k : Nat) : (s.failTo r k).fleet = s.fleet := rfl
@[simp] theorem State.failTo_pins (s : State) (r : Reason) (k : Nat) : (s.failTo r k).pins = s.pins := rfl
@[simp] theorem State.failTo_facadeClosed (s : State) (r : Reason) (k : Nat) : (s.failTo r k).facadeClosed = s.facadeClosed := rfl
@[simp] theorem State.failTo_fleetOps (s : State) (r : Reason) (k : Nat) : (s.failTo r k).fleetOps = s.fleetOps := rfl
@[simp] theorem State.failTo_subj (s : State) (r : Reason) (k : Nat) : (s.failTo r k).subj = s.subj := rfl
@[simp] theorem State.failTo_stopRequested (s : State) (r : Reason) (k : Nat) : (s.failTo r k).stopRequested = s.stopRequested := rfl
@[simp] theorem State.failTo_busy (s : State) (r : Reason) (k : Nat) : (s.failTo r k).busy = s.busy := rfl
@[simp] theorem State.failTo_pos (s : State) (r : Reason) (k : Nat) : (s.failTo r k).pos = { s.pos with step := k } := rfl
@[simp] theorem State.failTo_work (s : State) (r : Reason) (k : Nat) : (s.failTo r k).work = { s.work with pass := false, reason := r, sub := 0 } := rfl
@[simp] theorem State.failTo_env (s : State) (r : Reason) (k : Nat) : (s.failTo r k).env = s.env := rfl
@[simp] theorem State.failTo_responses (s : State) (r : Reason) (k : Nat) : (s.failTo r k).responses = s.responses := rfl
@[simp] theorem State.failTo_log (s : State) (r : Reason) (k : Nat) : (s.failTo r k).log = s.log := rfl
@[simp] theorem State.failTo_facade (s : State) (r : Reason) (k : Nat) : (s.failTo r k).facade = s.facade := rfl

/-! `judge` -/

@[simp] theorem State.judge_cfg (s : State) (p : Bool) : (s.judge p).cfg = s.cfg := rfl
@[simp] theorem State.judge_fleet (s : State) (p : Bool) : (s.judge p).fleet = s.fleet := rfl
@[simp] theorem State.judge_pins (s : State) (p : Bool) : (s.judge p).pins = s.pins := rfl
@[simp] theorem State.judge_facadeClosed (s : State) (p : Bool) : (s.judge p).facadeClosed = s.facadeClosed := rfl
@[simp] theorem State.judge_fleetOps (s : State) (p : Bool) : (s.judge p).fleetOps = s.fleetOps := rfl
@[simp] theorem State.judge_subj (s : State) (p : Bool) : (s.judge p).subj = s.subj := rfl
@[simp] theorem State.judge_stopRequested (s : State) (p : Bool) : (s.judge p).stopRequested = s.stopRequested := rfl
@[simp] theorem State.judge_busy (s : State) (p : Bool) : (s.judge p).busy = s.busy := rfl
@[simp] theorem State.judge_pos (s : State) (p : Bool) : (s.judge p).pos = s.pos := rfl
@[simp] theorem State.judge_work (s : State) (p : Bool) : (s.judge p).work = { s.work with pass := p, reason := if p then .ok else .mismatch } := rfl
@[simp] theorem State.judge_env (s : State) (p : Bool) : (s.judge p).env = s.env := rfl
@[simp] theorem State.judge_responses (s : State) (p : Bool) : (s.judge p).responses = s.responses := rfl
@[simp] theorem State.judge_log (s : State) (p : Bool) : (s.judge p).log = s.log := rfl
@[simp] theorem State.judge_facade (s : State) (p : Bool) : (s.judge p).facade = s.facade := rfl

/-! `measured` -/

@[simp] theorem State.measured_cfg (s : State) (v : Volts) : (s.measured v).cfg = s.cfg := rfl
@[simp] theorem State.measured_fleet (s : State) (v : Volts) : (s.measured v).fleet = s.fleet := rfl
@[simp] theorem State.measured_pins (s : State) (v : Volts) : (s.measured v).pins = s.pins := rfl
@[simp] theorem State.measured_facadeClosed (s : State) (v : Volts) : (s.measured v).facadeClosed = s.facadeClosed := rfl
@[simp] theorem State.measured_fleetOps (s : State) (v : Volts) : (s.measured v).fleetOps = s.fleetOps := rfl
@[simp] theorem State.measured_subj (s : State) (v : Volts) : (s.measured v).subj = s.subj := rfl
@[simp] theorem State.measured_stopRequested (s : State) (v : Volts) : (s.measured v).stopRequested = s.stopRequested := rfl
@[simp] theorem State.measured_busy (s : State) (v : Volts) : (s.measured v).busy = s.busy := rfl
@[simp] theorem State.measured_pos (s : State) (v : Volts) : (s.measured v).pos = s.pos := rfl
@[simp] theorem State.measured_work (s : State) (v : Volts) : (s.measured v).work = { s.work with measured := some v } := rfl
@[simp] theorem State.measured_env (s : State) (v : Volts) : (s.measured v).env = s.env := rfl
@[simp] theorem State.measured_responses (s : State) (v : Volts) : (s.measured v).responses = s.responses := rfl
@[simp] theorem State.measured_log (s : State) (v : Volts) : (s.measured v).log = s.log := rfl
@[simp] theorem State.measured_facade (s : State) (v : Volts) : (s.measured v).facade = s.facade := rfl

/-! `applied` -/

@[simp] theorem State.applied_cfg (s : State) : s.applied.cfg = s.cfg := rfl
@[simp] theorem State.applied_fleet (s : State) : s.applied.fleet = s.fleet := rfl
@[simp] theorem State.applied_pins (s : State) : s.applied.pins = s.pins := rfl
@[simp] theorem State.applied_facadeClosed (s : State) : s.applied.facadeClosed = s.facadeClosed := rfl
@[simp] theorem State.applied_fleetOps (s : State) : s.applied.fleetOps = s.fleetOps := rfl
@[simp] theorem State.applied_subj (s : State) : s.applied.subj = s.subj := rfl
@[simp] theorem State.applied_stopRequested (s : State) : s.applied.stopRequested = s.stopRequested := rfl
@[simp] theorem State.applied_busy (s : State) : s.applied.busy = s.busy := rfl
@[simp] theorem State.applied_pos (s : State) : s.applied.pos = s.pos := rfl
@[simp] theorem State.applied_work (s : State) : s.applied.work = { s.work with t0 := s.env.now } := rfl
@[simp] theorem State.applied_env (s : State) : s.applied.env = s.env := rfl
@[simp] theorem State.applied_responses (s : State) : s.applied.responses = s.responses := rfl
@[simp] theorem State.applied_log (s : State) : s.applied.log = s.log := rfl
@[simp] theorem State.applied_facade (s : State) : s.applied.facade = s.facade := rfl

/-! `beginVerify` -/

@[simp] theorem State.beginVerify_cfg (s : State) : s.beginVerify.cfg = s.cfg := rfl
@[simp] theorem State.beginVerify_fleet (s : State) : s.beginVerify.fleet = s.fleet := rfl
@[simp] theorem State.beginVerify_pins (s : State) : s.beginVerify.pins = s.pins := rfl
@[simp] theorem State.beginVerify_facadeClosed (s : State) : s.beginVerify.facadeClosed = s.facadeClosed := rfl
@[simp] theorem State.beginVerify_fleetOps (s : State) : s.beginVerify.fleetOps = s.fleetOps := rfl
@[simp] theorem State.beginVerify_subj (s : State) : s.beginVerify.subj = s.subj := rfl
@[simp] theorem State.beginVerify_stopRequested (s : State) : s.beginVerify.stopRequested = s.stopRequested := rfl
@[simp] theorem State.beginVerify_busy (s : State) : s.beginVerify.busy = s.busy := rfl
@[simp] theorem State.beginVerify_pos (s : State) : s.beginVerify.pos = s.pos := rfl
@[simp] theorem State.beginVerify_work (s : State) : s.beginVerify.work = { s.work with deadline := s.env.now + s.cfg.verifyWait, sub := s.work.sub + 1 } := rfl
@[simp] theorem State.beginVerify_env (s : State) : s.beginVerify.env = s.env := rfl
@[simp] theorem State.beginVerify_responses (s : State) : s.beginVerify.responses = s.responses := rfl
@[simp] theorem State.beginVerify_log (s : State) : s.beginVerify.log = s.log := rfl
@[simp] theorem State.beginVerify_facade (s : State) : s.beginVerify.facade = s.facade := rfl

/-! `gated` -/

@[simp] theorem State.gated_cfg (s : State) (b : Bool) (r : Reason) : (s.gated b r).cfg = s.cfg := rfl
@[simp] theorem State.gated_fleet (s : State) (b : Bool) (r : Reason) : (s.gated b r).fleet = s.fleet := rfl
@[simp] theorem State.gated_pins (s : State) (b : Bool) (r : Reason) : (s.gated b r).pins = s.pins := rfl
@[simp] theorem State.gated_facadeClosed (s : State) (b : Bool) (r : Reason) : (s.gated b r).facadeClosed = s.facadeClosed := rfl
@[simp] theorem State.gated_fleetOps (s : State) (b : Bool) (r : Reason) : (s.gated b r).fleetOps = s.fleetOps := rfl
@[simp] theorem State.gated_subj (s : State) (b : Bool) (r : Reason) : (s.gated b r).subj = s.subj := rfl
@[simp] theorem State.gated_stopRequested (s : State) (b : Bool) (r : Reason) : (s.gated b r).stopRequested = s.stopRequested := rfl
@[simp] theorem State.gated_busy (s : State) (b : Bool) (r : Reason) : (s.gated b r).busy = s.busy := rfl
@[simp] theorem State.gated_pos (s : State) (b : Bool) (r : Reason) : (s.gated b r).pos = s.pos := rfl
@[simp] theorem State.gated_work (s : State) (b : Bool) (r : Reason) : (s.gated b r).work = { s.work with gate := b, reason := if b then .ok else r } := rfl
@[simp] theorem State.gated_env (s : State) (b : Bool) (r : Reason) : (s.gated b r).env = s.env := rfl
@[simp] theorem State.gated_responses (s : State) (b : Bool) (r : Reason) : (s.gated b r).responses = s.responses := rfl
@[simp] theorem State.gated_log (s : State) (b : Bool) (r : Reason) : (s.gated b r).log = s.log := rfl
@[simp] theorem State.gated_facade (s : State) (b : Bool) (r : Reason) : (s.gated b r).facade = s.facade := rfl

/-! `logDirective` -/

@[simp] theorem State.logDirective_cfg (s : State) : s.logDirective.cfg = s.cfg := rfl
@[simp] theorem State.logDirective_fleet (s : State) : s.logDirective.fleet = s.fleet := rfl
@[simp] theorem State.logDirective_pins (s : State) : s.logDirective.pins = s.pins := rfl
@[simp] theorem State.logDirective_facadeClosed (s : State) : s.logDirective.facadeClosed = s.facadeClosed := rfl
@[simp] theorem State.logDirective_fleetOps (s : State) : s.logDirective.fleetOps = s.fleetOps := rfl
@[simp] theorem State.logDirective_subj (s : State) : s.logDirective.subj = s.subj := rfl
@[simp] theorem State.logDirective_stopRequested (s : State) : s.logDirective.stopRequested = s.stopRequested := rfl
@[simp] theorem State.logDirective_busy (s : State) : s.logDirective.busy = s.busy := rfl
@[simp] theorem State.logDirective_pos (s : State) : s.logDirective.pos = s.pos := rfl
@[simp] theorem State.logDirective_work (s : State) : s.logDirective.work = s.work := rfl
@[simp] theorem State.logDirective_env (s : State) : s.logDirective.env = s.env := rfl
@[simp] theorem State.logDirective_responses (s : State) : s.logDirective.responses = s.responses := rfl
@[simp] theorem State.logDirective_facade (s : State) : s.logDirective.facade = s.facade := rfl
@[simp] theorem State.logDirective_log (s : State) :
    s.logDirective.log = .unparsedDirective s.pos.phase s.pos.idx :: s.log := rfl

/-! `addShort` -/

@[simp] theorem State.addShort_cfg (s : State) (e : ShortEntry) : (s.addShort e).cfg = s.cfg := rfl
@[simp] theorem State.addShort_fleet (s : State) (e : ShortEntry) : (s.addShort e).fleet = s.fleet := rfl
@[simp] theorem State.addShort_pins (s : State) (e : ShortEntry) : (s.addShort e).pins = s.pins := rfl
@[simp] theorem State.addShort_facadeClosed (s : State) (e : ShortEntry) : (s.addShort e).facadeClosed = s.facadeClosed := rfl
@[simp] theorem State.addShort_fleetOps (s : State) (e : ShortEntry) : (s.addShort e).fleetOps = s.fleetOps := rfl
@[simp] theorem State.addShort_subj (s : State) (e : ShortEntry) : (s.addShort e).subj = s.subj := rfl
@[simp] theorem State.addShort_stopRequested (s : State) (e : ShortEntry) : (s.addShort e).stopRequested = s.stopRequested := rfl
@[simp] theorem State.addShort_busy (s : State) (e : ShortEntry) : (s.addShort e).busy = s.busy := rfl
@[simp] theorem State.addShort_pos (s : State) (e : ShortEntry) : (s.addShort e).pos = s.pos := rfl
@[simp] theorem State.addShort_work (s : State) (e : ShortEntry) : (s.addShort e).work = { s.work with shorts := s.work.shorts ++ [e] } := rfl
@[simp] theorem State.addShort_env (s : State) (e : ShortEntry) : (s.addShort e).env = s.env := rfl
@[simp] theorem State.addShort_responses (s : State) (e : ShortEntry) : (s.addShort e).responses = s.responses := rfl
@[simp] theorem State.addShort_log (s : State) (e : ShortEntry) : (s.addShort e).log = s.log := rfl
@[simp] theorem State.addShort_facade (s : State) (e : ShortEntry) : (s.addShort e).facade = s.facade := rfl

/-! `endSequence` -/

@[simp] theorem State.endSequence_cfg (s : State) : s.endSequence.cfg = s.cfg := rfl
@[simp] theorem State.endSequence_fleet (s : State) : s.endSequence.fleet = s.fleet := rfl
@[simp] theorem State.endSequence_pins (s : State) : s.endSequence.pins = s.pins := rfl
@[simp] theorem State.endSequence_facadeClosed (s : State) : s.endSequence.facadeClosed = s.facadeClosed := rfl
@[simp] theorem State.endSequence_fleetOps (s : State) : s.endSequence.fleetOps = s.fleetOps := rfl
@[simp] theorem State.endSequence_subj (s : State) : s.endSequence.subj = s.subj := rfl
@[simp] theorem State.endSequence_stopRequested (s : State) : s.endSequence.stopRequested = s.stopRequested := rfl
@[simp] theorem State.endSequence_busy (s : State) : s.endSequence.busy = false := rfl
@[simp] theorem State.endSequence_pos (s : State) : s.endSequence.pos = .idle := rfl
@[simp] theorem State.endSequence_work (s : State) : s.endSequence.work = .idle := rfl
@[simp] theorem State.endSequence_env (s : State) : s.endSequence.env = s.env := rfl
@[simp] theorem State.endSequence_responses (s : State) : s.endSequence.responses = s.responses := rfl
@[simp] theorem State.endSequence_log (s : State) : s.endSequence.log = s.log := rfl
@[simp] theorem State.endSequence_facade (s : State) : s.endSequence.facade = s.facade := rfl

/-! `enterPhase` -/

@[simp] theorem State.enterPhase_cfg (s : State) (p : Phase) : (s.enterPhase p).cfg = s.cfg := rfl
@[simp] theorem State.enterPhase_fleet (s : State) (p : Phase) : (s.enterPhase p).fleet = s.fleet := rfl
@[simp] theorem State.enterPhase_pins (s : State) (p : Phase) : (s.enterPhase p).pins = s.pins := rfl
@[simp] theorem State.enterPhase_facadeClosed (s : State) (p : Phase) : (s.enterPhase p).facadeClosed = s.facadeClosed := rfl
@[simp] theorem State.enterPhase_fleetOps (s : State) (p : Phase) : (s.enterPhase p).fleetOps = s.fleetOps := rfl
@[simp] theorem State.enterPhase_subj (s : State) (p : Phase) : (s.enterPhase p).subj = s.subj := rfl
@[simp] theorem State.enterPhase_stopRequested (s : State) (p : Phase) : (s.enterPhase p).stopRequested = s.stopRequested := rfl
@[simp] theorem State.enterPhase_busy (s : State) (p : Phase) : (s.enterPhase p).busy = s.busy := rfl
@[simp] theorem State.enterPhase_pos (s : State) (p : Phase) : (s.enterPhase p).pos = { phase := p, idx := 0, step := 0 } := rfl
@[simp] theorem State.enterPhase_work (s : State) (p : Phase) : (s.enterPhase p).work = s.work := rfl
@[simp] theorem State.enterPhase_env (s : State) (p : Phase) : (s.enterPhase p).env = s.env := rfl
@[simp] theorem State.enterPhase_responses (s : State) (p : Phase) : (s.enterPhase p).responses = s.responses := rfl
@[simp] theorem State.enterPhase_log (s : State) (p : Phase) : (s.enterPhase p).log = s.log := rfl
@[simp] theorem State.enterPhase_facade (s : State) (p : Phase) : (s.enterPhase p).facade = s.facade := rfl

/-! `beginCheck` -/

@[simp] theorem State.beginCheck_cfg (s : State) (p : SeqPos) (w : Work) : (s.beginCheck p w).cfg = s.cfg := rfl
@[simp] theorem State.beginCheck_fleet (s : State) (p : SeqPos) (w : Work) : (s.beginCheck p w).fleet = s.fleet := rfl
@[simp] theorem State.beginCheck_pins (s : State) (p : SeqPos) (w : Work) : (s.beginCheck p w).pins = s.pins := rfl
@[simp] theorem State.beginCheck_facadeClosed (s : State) (p : SeqPos) (w : Work) : (s.beginCheck p w).facadeClosed = s.facadeClosed := rfl
@[simp] theorem State.beginCheck_fleetOps (s : State) (p : SeqPos) (w : Work) : (s.beginCheck p w).fleetOps = s.fleetOps := rfl
@[simp] theorem State.beginCheck_subj (s : State) (p : SeqPos) (w : Work) : (s.beginCheck p w).subj = s.subj := rfl
@[simp] theorem State.beginCheck_stopRequested (s : State) (p : SeqPos) (w : Work) : (s.beginCheck p w).stopRequested = s.stopRequested := rfl
@[simp] theorem State.beginCheck_busy (s : State) (p : SeqPos) (w : Work) : (s.beginCheck p w).busy = true := rfl
@[simp] theorem State.beginCheck_pos (s : State) (p : SeqPos) (w : Work) : (s.beginCheck p w).pos = p := rfl
@[simp] theorem State.beginCheck_work (s : State) (p : SeqPos) (w : Work) : (s.beginCheck p w).work = w := rfl
@[simp] theorem State.beginCheck_env (s : State) (p : SeqPos) (w : Work) : (s.beginCheck p w).env = s.env := rfl
@[simp] theorem State.beginCheck_responses (s : State) (p : SeqPos) (w : Work) : (s.beginCheck p w).responses = s.responses := rfl
@[simp] theorem State.beginCheck_log (s : State) (p : SeqPos) (w : Work) : (s.beginCheck p w).log = s.log := rfl
@[simp] theorem State.beginCheck_facade (s : State) (p : SeqPos) (w : Work) : (s.beginCheck p w).facade = s.facade := rfl

end Sys2Proof.Machine
end

