-- ==== Sys2Proof/Laws/Engine.lean ====
section
/-!
SUPPORT. What a turn of the engine worker leaves alone: `WorkerFrame`, step by step of each pipeline.
-/

namespace Sys2Proof.Machine

/-! ## The relation -/

theorem SessionKept.refl (o : Option Channel) : SessionKept o o := by
  cases o <;> simp [SessionKept]

theorem SessionKept.trans {a b c : Option Channel} (h : SessionKept a b) (k : SessionKept b c) : SessionKept a c := by
  cases a <;> cases b <;> cases c <;> simp only [SessionKept] at h k ⊢
  obtain ⟨h1, h2⟩ := h
  obtain ⟨k1, k2⟩ := k
  refine ⟨by rw [k1, h1], ?_⟩
  rcases h2 with h2 | ⟨h2, h3⟩ <;> rcases k2 with k2 | ⟨k2, k3⟩
  · exact .inl (k2.trans h2)
  · exact .inr ⟨h2 ▸ k2, k3⟩
  · exact .inr ⟨h2, k2.trans h3⟩
  · exact .inr ⟨h2, k3⟩

@[simp] theorem WorkerFrame.refl (s : State) : WorkerFrame s s :=
  ⟨rfl, rfl, rfl, rfl, rfl, fun _ => .refl _, rfl, .refl s, id⟩

theorem WorkerFrame.trans {s t u : State} (h : WorkerFrame s t) (k : WorkerFrame t u) : WorkerFrame s u := by
  obtain ⟨h1, h2, h3, h0, h4, h5, h6, h7, h8⟩ := h
  obtain ⟨k1, k2, k3, k0, k4, k5, k6, k7, k8⟩ := k
  exact ⟨k1.trans h1, k2.trans h2, k3.trans h3, k0.trans h0, by rw [k4, h4], fun i => (h5 i).trans (k5 i), k6.trans h6,
    h7.trans k7 (by rw [h4]), fun h => k8 (h8 h)⟩

/-- Facade calls keep the frame. -/
theorem WorkerFrame.facade {s t u : State} (h : WorkerFrame s t)
    (k : FacadeOnly t u ∧ TraceGrows t u ∧ (t.pins.wf → u.pins.wf)) : WorkerFrame s u := by
  obtain ⟨k1, k2, k3⟩ := k
  refine h.trans ⟨k1.cfg, k1.facadeClosed, k1.stopRequested, k1.fleetOps, ?_, fun i => ?_, ?_, k2, k3⟩
  · rw [k1]
  · rw [k1.fleet]; exact .refl _
  · rw [k1.subj]

/-! ## Control -/

@[simp] theorem WorkerFrame.goto {s t : State} (k : Nat) : WorkerFrame s (t.goto k) ↔ WorkerFrame s t := Iff.rfl
@[simp] theorem WorkerFrame.sleep {s t : State} (d : Time) : WorkerFrame s (t.sleep d) ↔ WorkerFrame s t := Iff.rfl
@[simp] theorem WorkerFrame.nextPart {s t : State} : WorkerFrame s t.nextPart ↔ WorkerFrame s t := Iff.rfl
@[simp] theorem WorkerFrame.verdict {s t : State} (p : Bool) (r : Reason) :
    WorkerFrame s (t.verdict p r) ↔ WorkerFrame s t := Iff.rfl
@[simp] theorem WorkerFrame.failTo {s t : State} (r : Reason) (k : Nat) :
    WorkerFrame s (t.failTo r k) ↔ WorkerFrame s t := Iff.rfl
@[simp] theorem WorkerFrame.judge {s t : State} (p : Bool) : WorkerFrame s (t.judge p) ↔ WorkerFrame s t := Iff.rfl
@[simp] theorem WorkerFrame.measured {s t : State} (v : Volts) :
    WorkerFrame s (t.measured v) ↔ WorkerFrame s t := Iff.rfl
@[simp] theorem WorkerFrame.applied {s t : State} : WorkerFrame s t.applied ↔ WorkerFrame s t := Iff.rfl
@[simp] theorem WorkerFrame.beginVerify {s t : State} : WorkerFrame s t.beginVerify ↔ WorkerFrame s t := Iff.rfl
@[simp] theorem WorkerFrame.gated {s t : State} (b : Bool) (r : Reason) :
    WorkerFrame s (t.gated b r) ↔ WorkerFrame s t := Iff.rfl
@[simp] theorem WorkerFrame.addShort {s t : State} (e : ShortEntry) :
    WorkerFrame s (t.addShort e) ↔ WorkerFrame s t := Iff.rfl
@[simp] theorem WorkerFrame.setWork {s t : State} (w : Work) : WorkerFrame s (t.setWork w) ↔ WorkerFrame s t := Iff.rfl
@[simp] theorem WorkerFrame.setPos {s t : State} (p : SeqPos) : WorkerFrame s (t.setPos p) ↔ WorkerFrame s t := Iff.rfl
@[simp] theorem WorkerFrame.setBusy {s t : State} (b : Bool) : WorkerFrame s (t.setBusy b) ↔ WorkerFrame s t := Iff.rfl
@[simp] theorem WorkerFrame.enterPhase {s t : State} (p : Phase) :
    WorkerFrame s (t.enterPhase p) ↔ WorkerFrame s t := Iff.rfl
@[simp] theorem WorkerFrame.respond {s t : State} (r : Response) :
    WorkerFrame s (t.respond r) ↔ WorkerFrame s t := Iff.rfl
@[simp] theorem WorkerFrame.emit {s t : State} (d : Diagnostic) : WorkerFrame s (t.emit d) ↔ WorkerFrame s t := Iff.rfl
@[simp] theorem WorkerFrame.logDirective {s t : State} : WorkerFrame s t.logDirective ↔ WorkerFrame s t := Iff.rfl
@[simp] theorem WorkerFrame.endSequence {s t : State} : WorkerFrame s t.endSequence ↔ WorkerFrame s t := Iff.rfl

@[simp] theorem WorkerFrame.finish {s t : State} (r : CheckResult) :
    WorkerFrame s (t.finish r) ↔ WorkerFrame s t := by
  unfold State.finish
  split <;> exact Iff.rfl

@[simp] theorem WorkerFrame.pullUpVerdict {s t : State} (b : Bool) :
    WorkerFrame s (pullUpVerdict b t) ↔ WorkerFrame s t := by
  unfold Machine.pullUpVerdict
  repeat' split
  all_goals exact Iff.rfl

@[simp] theorem WorkerFrame.phaseDone {s t : State} : WorkerFrame s t.phaseDone ↔ WorkerFrame s t := by
  unfold State.phaseDone
  split <;> exact Iff.rfl

/-- Writing the results of a subject keeps its input fields (R43). -/
theorem WorkerFrame.setSubj {s t : State} (h : WorkerFrame s t) {i : Nat} {sub sub' : Subject}
    (hs : t.subj[i]? = some sub) (hi : sub'.input = sub.input) : WorkerFrame s (t.setSubj (t.subj.set i sub')) := by
  obtain ⟨h1, h2, h3, h0, h4, h5, h6, h7, h8⟩ := h
  refine ⟨h1, h2, h3, h0, h4, h5, ?_, h7, h8⟩
  rw [← h6]
  simp only [State.setSubj_subj, List.map_set, hi]
  refine List.ext_getElem? fun k => ?_
  rw [List.getElem?_set]
  split
  · rename_i hk
    subst hk
    obtain ⟨hlt, he⟩ := List.getElem?_eq_some_iff.1 hs
    simp [hlt, he]
  · rfl

/-! ## Shared operations -/

section
variable {s t : State} (h : WorkerFrame s t)
include h

@[simp] theorem WorkerFrame.digitalWrite (p : FacadePin) (l : Bool) : WorkerFrame s (digitalWrite p l t).2 :=
  h.facade (digitalWrite_frame p l t)

@[simp] theorem WorkerFrame.analogRead (p : FacadePin) : WorkerFrame s (analogRead p t).2 := by
  obtain ⟨h1, h2, h3⟩ := analogRead_frame p t
  exact h.facade ⟨h1, h2, fun k => h3 ▸ k⟩

@[simp] theorem WorkerFrame.drivePins (l : Bool) (ps : List FacadePin) : WorkerFrame s (drivePins l ps t).2 :=
  h.facade (drivePins_frame l ps t)

@[simp] theorem WorkerFrame.restorePins (ps : List FacadePin) : WorkerFrame s (restorePins ps t) :=
  h.facade (restorePins_frame ps t)

@[simp] theorem WorkerFrame.clearAllLines : WorkerFrame s (clearAllLines t).2 :=
  h.facade (clearAllLines_frame t)

@[simp] theorem WorkerFrame.routePin (pin : Int) (sch : Scheme) : WorkerFrame s (routePin pin sch t).2 :=
  h.facade (routePin_frame pin sch t)

@[simp] theorem WorkerFrame.routeClean (pin : Int) (sch : Scheme) : WorkerFrame s (routeClean pin sch t).2 :=
  h.facade (routeClean_frame pin sch t)

@[simp] theorem WorkerFrame.restoreLines : WorkerFrame s (restoreLines t) :=
  h.facade (restoreLines_frame t)

@[simp] theorem WorkerFrame.setPullup (k : Nat) (l : Bool) : WorkerFrame s (setPullup k l t).2 :=
  h.digitalWrite _ _

@[simp] theorem WorkerFrame.setRelay (k : Nat) (l : Bool) : WorkerFrame s (setRelay k l t).2 :=
  h.drivePins _ _

@[simp] theorem WorkerFrame.measurePair (k : Nat) : WorkerFrame s (measurePair k t).2 :=
  h.analogRead _

@[simp] theorem WorkerFrame.measure (pin : Int) : WorkerFrame s (measure pin t).2 :=
  h.analogRead _

/-- A stimulus changes frame registers, and draws at most a tie. -/
@[simp] theorem WorkerFrame.fleetSet (c : Int) (f : SendRegs → Except Err SendRegs) :
    WorkerFrame s (fleetSet c f t).2 := by
  rcases fleetSet_cases c f t with ⟨-, e⟩ | ⟨ch, er, -, -, e⟩ | ⟨ch, r, hc, -, e⟩
  · rw [e]; exact h
  · rw [e]; exact h
  · rw [e]
    refine h.trans ⟨rfl, rfl, rfl, rfl, rfl, fun k => ?_, rfl, .refl t, id⟩
    simp only [Fin.getElem_fin, State.fleet_setChan _ _ _ _ k.2]
    split
    · rename_i hk
      have hb := State.chan_bounds hc
      rw [State.chan_eq_fleet t hb] at hc
      simp only [← hk, hc, SessionKept]
      exact ⟨trivial, .inl trivial⟩
    · exact .refl _

@[simp] theorem WorkerFrame.setEnvTie : WorkerFrame s (t.setEnv t.env.drawTie.2) := by
  refine h.trans ⟨rfl, rfl, rfl, rfl, ?_, fun _ => .refl _, rfl, .refl t, id⟩
  simp only [State.setEnv_env]
  rw [Env.drawTie_frame]

@[simp] theorem WorkerFrame.fleetSetAnalog (c n : Int) (v : Volts) : WorkerFrame s (fleetSetAnalog c n v t).2 := by
  unfold Machine.fleetSetAnalog
  split
  · exact WorkerFrame.fleetSet (WorkerFrame.setEnvTie h) _ _
  · exact h.fleetSet _ _

@[simp] theorem WorkerFrame.applyStimulus (spec : Stimulus) (v : Int) :
    WorkerFrame s (applyStimulus spec v t).2 := by
  unfold Machine.applyStimulus
  split
  · exact h.fleetSetAnalog _ _ _
  · split
    · exact h.fleetSet _ _
    · exact h

@[simp] theorem WorkerFrame.revertQuiet (spec : Stimulus) : WorkerFrame s (revertQuiet spec t) :=
  h.applyStimulus _ _

@[simp] theorem WorkerFrame.fleetStop (c : Int) : WorkerFrame s (fleetStop c t).2 := by
  simp only [Machine.fleetStop]
  split
  · exact h
  · rename_i ch hc
    refine h.trans ⟨rfl, rfl, rfl, rfl, rfl, fun k => ?_, rfl, .refl t, id⟩
    simp only [Fin.getElem_fin, State.fleet_setChan _ _ _ _ k.2]
    split
    · rename_i hk
      rw [State.chan_eq_fleet t (State.chan_bounds hc)] at hc
      simp only [← hk, hc]
      obtain ⟨_, _, _, _, run, _, _, _, _, _, _, _, _, _, _⟩ := ch
      cases run <;> simp [SessionKept, Channel.stopped]
    · exact .refl _

end


/-! ## The steps -/

theorem powerP1_frame (s : State) : WorkerFrame s (powerP1 s) := by
  simp only [powerP1]
  repeat' split
  all_goals simp

theorem powerP2_frame (sub : Subject) (s : State) : WorkerFrame s (powerP2 sub s) := by
  simp only [powerP2]
  repeat' split
  all_goals simp

theorem powerP3_frame (s : State) : WorkerFrame s (powerP3 s) := by
  simp only [powerP3]
  all_goals simp

theorem powerP4_frame (sub : Subject) (s : State) : WorkerFrame s (powerP4 sub s) := by
  simp only [powerP4]
  repeat' split
  all_goals simp

theorem powerP5_frame (sub : Subject) (s : State) : WorkerFrame s (powerP5 sub s) := by
  simp only [powerP5]
  repeat' split
  all_goals simp

theorem powerP6_frame (sub : Subject) (s : State) : WorkerFrame s (powerP6 sub s) := by
  simp only [powerP6]
  repeat' split
  all_goals simp

theorem powerP7_frame (s : State) : WorkerFrame s (powerP7 s) := by
  simp only [powerP7]
  repeat' split
  all_goals simp

theorem powerP8_frame (spec : Stimulus) (s : State) : WorkerFrame s (powerP8 spec s) := by
  simp only [powerP8]
  repeat' split
  all_goals simp

theorem powerP9_frame (spec : Stimulus) (s : State) : WorkerFrame s (powerP9 spec s) := by
  simp only [powerP9]
  repeat' split
  all_goals simp

theorem powerP10_frame (s : State) : WorkerFrame s (powerP10 s) := by
  simp only [powerP10]
  all_goals simp

theorem powerP11_frame (sub : Subject) (spec : Stimulus) (s : State) : WorkerFrame s (powerP11 sub spec s) := by
  simp only [powerP11]
  repeat' split
  all_goals simp

theorem powerP12_frame (spec : Stimulus) (s : State) : WorkerFrame s (powerP12 spec s) := by
  simp only [powerP12]
  repeat' split
  all_goals simp

theorem powerP13_frame (s : State) : WorkerFrame s (powerP13 s) := by
  simp only [powerP13]
  repeat' split
  all_goals simp

theorem powerP14_frame (sub : Subject) (s : State) : WorkerFrame s (powerP14 sub s) := by
  simp only [powerP14]
  repeat' split
  all_goals simp

theorem powerP15_frame (s : State) : WorkerFrame s (powerP15 s) := by
  simp only [powerP15]
  all_goals simp

theorem pullUpExit_frame (k : Nat) (why : Reason) (s : State) : WorkerFrame s (pullUpExit k why s) := by
  simp only [pullUpExit]
  all_goals simp

theorem pullUpU1_frame (sub : Subject) (s : State) : WorkerFrame s (pullUpU1 sub s) := by
  simp only [pullUpU1]
  repeat' split
  all_goals simp

theorem pullUpU2_frame (sub : Subject) (s : State) : WorkerFrame s (pullUpU2 sub s) := by
  simp only [pullUpU2]
  repeat' split
  all_goals simp

theorem pullUpU3_frame (k : Nat) (s : State) : WorkerFrame s (pullUpU3 k s) := by
  simp only [pullUpU3, pullUpExit]
  repeat' split
  all_goals simp

theorem pullUpU4_frame (sub : Subject) (k : Nat) (s : State) : WorkerFrame s (pullUpU4 sub k s) := by
  simp only [pullUpU4, pullUpExit]
  repeat' split
  all_goals simp

theorem pullUpU5_frame (sub : Subject) (k : Nat) (s : State) : WorkerFrame s (pullUpU5 sub k s) := by
  simp only [pullUpU5, pullUpExit]
  repeat' split
  all_goals simp

theorem pullUpU6_frame (sub : Subject) (k : Nat) (s : State) : WorkerFrame s (pullUpU6 sub k s) := by
  simp only [pullUpU6]
  repeat' split
  all_goals simp

theorem pullUpU7_frame (sub : Subject) (k : Nat) (s : State) : WorkerFrame s (pullUpU7 sub k s) := by
  simp only [pullUpU7, pullUpExit]
  repeat' split
  all_goals simp

theorem pullUpU8_frame (spec : Stimulus) (k : Nat) (s : State) : WorkerFrame s (pullUpU8 spec k s) := by
  simp only [pullUpU8, pullUpExit]
  repeat' split
  all_goals simp

theorem pullUpU9_frame (spec : Stimulus) (s : State) : WorkerFrame s (pullUpU9 spec s) := by
  simp only [pullUpU9]
  repeat' split
  all_goals simp

theorem pullUpU10_frame (sub : Subject) (s : State) : WorkerFrame s (pullUpU10 sub s) := by
  simp only [pullUpU10]
  repeat' split
  all_goals simp

theorem pullUpU11_frame (spec : Stimulus) (k : Nat) (s : State) : WorkerFrame s (pullUpU11 spec k s) := by
  simp only [pullUpU11]
  repeat' split
  all_goals simp

theorem pullUpU12_frame (s : State) : WorkerFrame s (pullUpU12 s) := by
  simp only [pullUpU12]
  all_goals simp

theorem logicG1_frame (sub : Subject) (s : State) : WorkerFrame s (logicG1 sub s) := by
  simp only [logicG1]
  repeat' split
  all_goals simp

theorem logicG2_frame (sub : Subject) (s : State) : WorkerFrame s (logicG2 sub s) := by
  simp only [logicG2]
  repeat' split
  all_goals simp

theorem logicG3_frame (s : State) : WorkerFrame s (logicG3 s) := by
  simp only [logicG3]
  repeat' split
  all_goals simp

theorem logicG4_frame (sub : Subject) (s : State) : WorkerFrame s (logicG4 sub s) := by
  simp only [logicG4]
  repeat' split
  all_goals simp

theorem logicG5_frame (s : State) : WorkerFrame s (logicG5 s) := by
  simp only [logicG5]
  all_goals simp

theorem logicG6_frame (sub : Subject) (s : State) : WorkerFrame s (logicG6 sub s) := by
  simp only [logicG6]
  repeat' split
  all_goals simp

theorem logicG7_frame (e : LogicExpectation) (s : State) : WorkerFrame s (logicG7 e s) := by
  simp only [logicG7]
  repeat' split
  all_goals simp

theorem logicG8_frame (sub : Subject) (s : State) : WorkerFrame s (logicG8 sub s) := by
  simp only [logicG8]
  repeat' split
  all_goals simp

theorem sweepFailure_frame (p : Nat) (s : State) : WorkerFrame s (sweepFailure p s) := by
  simp only [sweepFailure]
  all_goals simp

theorem sweepS1_frame (s : State) : WorkerFrame s (sweepS1 s) := by
  simp only [sweepS1]
  repeat' split
  all_goals simp

theorem sweepS2_frame (p : Nat) (s : State) : WorkerFrame s (sweepS2 p s) := by
  simp only [sweepS2, sweepFailure]
  repeat' split
  all_goals simp

theorem sweepS3_frame (p : Nat) (s : State) : WorkerFrame s (sweepS3 p s) := by
  simp only [sweepS3, sweepFailure]
  repeat' split
  all_goals simp

theorem sweepRoute_frame (p : Nat) (s : State) : WorkerFrame s (sweepRoute p s) := by
  simp only [sweepRoute, sweepFailure]
  repeat' split
  all_goals simp

theorem sweepAdvance_frame (s : State) : WorkerFrame s (sweepAdvance s) := by
  simp only [sweepAdvance]
  repeat' split
  all_goals simp

theorem sweepMeasure_frame (p : Nat) (s : State) : WorkerFrame s (sweepMeasure p s) := by
  simp only [sweepMeasure, sweepFailure, sweepAdvance]
  repeat' split
  all_goals simp

theorem sweepS4_frame (p : Nat) (s : State) : WorkerFrame s (sweepS4 p s) := by
  simp only [sweepS4, sweepRoute, sweepMeasure, sweepFailure, sweepAdvance]
  repeat' split
  all_goals simp

theorem sweepS5_frame (p : Nat) (s : State) : WorkerFrame s (sweepS5 p s) := by
  simp only [sweepS5, sweepNext]
  split
  all_goals simp

theorem sweepS7_frame (s : State) : WorkerFrame s (sweepS7 s) := by
  simp only [sweepS7]
  repeat' split
  all_goals simp

theorem relayF1_frame (s : State) : WorkerFrame s (relayF1 s) := by
  simp only [relayF1]
  repeat' split
  all_goals simp

theorem relayF2_frame (ka kb : Nat) (s : State) : WorkerFrame s (relayF2 ka kb s) := by
  simp only [relayF2]
  repeat' split
  all_goals simp

theorem relayF3_frame (s : State) : WorkerFrame s (relayF3 s) := by
  simp only [relayF3]
  all_goals simp

theorem relayF4_frame (ka kb : Nat) (s : State) : WorkerFrame s (relayF4 ka kb s) := by
  simp only [relayF4]
  repeat' split
  all_goals simp

theorem relayF5_frame (s : State) : WorkerFrame s (relayF5 s) := by
  simp only [relayF5]
  repeat' split
  all_goals simp

theorem relayF6_frame (ka kb : Nat) (s : State) : WorkerFrame s (relayF6 ka kb s) := by
  simp only [relayF6]
  all_goals simp

theorem relayF7_frame (s : State) : WorkerFrame s (relayF7 s) := by
  simp only [relayF7]
  all_goals simp

theorem sequenceGate_frame (sub : Subject) (s : State) : WorkerFrame s (sequenceGate sub s) := by
  simp only [sequenceGate]
  repeat' split
  all_goals simp

/-! ## The checks and the worker -/

theorem powerP16_frame {sub : Subject} {s : State} (h : s.subj[s.pos.idx]? = some sub) :
    WorkerFrame s (powerP16 sub s) := by
  simp only [powerP16, WorkerFrame.finish]
  exact (WorkerFrame.refl s).setSubj h rfl

theorem pullUpU13_frame {sub : Subject} {s : State} (h : s.subj[s.pos.idx]? = some sub) :
    WorkerFrame s (pullUpU13 sub s) := by
  simp only [pullUpU13, WorkerFrame.finish]
  exact (WorkerFrame.refl s).setSubj h rfl

theorem logicG9_frame {sub : Subject} {s : State} (h : s.subj[s.pos.idx]? = some sub) :
    WorkerFrame s (logicG9 sub s) := by
  simp only [logicG9, WorkerFrame.finish]
  exact (WorkerFrame.refl s).setSubj h rfl

theorem powerStep_frame {sub : Subject} {s : State} (h : s.subj[s.pos.idx]? = some sub) :
    WorkerFrame s (powerStep sub s) := by
  unfold powerStep
  split
  · exact powerP1_frame s
  · exact powerP2_frame sub s
  · exact powerP3_frame s
  · exact powerP4_frame sub s
  · exact powerP5_frame sub s
  · exact powerP6_frame sub s
  · exact powerP7_frame s
  · exact powerP8_frame _ s
  · exact powerP9_frame _ s
  · exact powerP10_frame s
  · exact powerP11_frame sub _ s
  · exact powerP12_frame _ s
  · exact powerP13_frame s
  · exact powerP14_frame sub s
  · exact powerP15_frame s
  · exact powerP16_frame h

theorem pullUpStep_frame {sub : Subject} {s : State} (h : s.subj[s.pos.idx]? = some sub) :
    WorkerFrame s (pullUpStep sub s) := by
  unfold pullUpStep
  split
  · exact pullUpU1_frame sub s
  · exact pullUpU2_frame sub s
  · exact pullUpU3_frame _ s
  · exact pullUpU4_frame sub _ s
  · exact pullUpU5_frame sub _ s
  · exact pullUpU6_frame sub _ s
  · exact pullUpU7_frame sub _ s
  · exact pullUpU8_frame _ _ s
  · exact pullUpU9_frame _ s
  · exact pullUpU10_frame sub s
  · exact pullUpU11_frame _ _ s
  · exact pullUpU12_frame s
  · exact pullUpU13_frame h

theorem logicStep_frame {sub : Subject} {s : State} (h : s.subj[s.pos.idx]? = some sub) :
    WorkerFrame s (logicStep sub s) := by
  unfold logicStep
  split
  · exact logicG1_frame sub s
  · exact logicG2_frame sub s
  · exact logicG3_frame s
  · exact logicG4_frame sub s
  · exact logicG5_frame s
  · exact logicG6_frame sub s
  · exact logicG7_frame _ s
  · exact logicG8_frame sub s
  · exact logicG9_frame h

theorem sweepStep_frame (s : State) : WorkerFrame s (sweepStep s) := by
  unfold sweepStep
  split
  · exact sweepS1_frame s
  · exact sweepS2_frame _ s
  · exact sweepS3_frame _ s
  · exact sweepS4_frame _ s
  · exact sweepS5_frame _ s
  · exact sweepS7_frame s

theorem relayStep_frame (s : State) : WorkerFrame s (relayStep s) := by
  unfold relayStep
  split
  · exact relayF1_frame s
  · exact relayF2_frame _ _ s
  · exact relayF3_frame s
  · exact relayF4_frame _ _ s
  · exact relayF5_frame s
  · exact relayF6_frame _ _ s
  · exact relayF7_frame s

theorem subjectStep_frame {f : Subject → State → State} {s : State}
    (hf : ∀ sub, s.subj[s.pos.idx]? = some sub → WorkerFrame s (f sub s)) : WorkerFrame s (subjectStep f s) := by
  unfold subjectStep
  split
  · simp
  · split
    · exact sequenceGate_frame _ s
    · exact hf _ ‹_›

theorem engineStep_frame (s : State) : WorkerFrame s (engineStep s) := by
  unfold engineStep
  split
  · simp
  · exact subjectStep_frame fun _ h => powerStep_frame h
  · exact subjectStep_frame fun _ h => pullUpStep_frame h
  · exact subjectStep_frame fun _ h => logicStep_frame h
  · exact sweepStep_frame s
  · exact relayStep_frame s

/-- What a turn of the engine worker leaves alone. -/
theorem workerStep_frame (s : State) : WorkerFrame s (workerStep s) := by
  unfold workerStep
  split
  · split
    · exact engineStep_frame s
    · split
      · simp
      · exact ((WorkerFrame.setWork _).2 (.refl s)).trans (engineStep_frame _)
  · simp

end Sys2Proof.Machine
end

