-- ==== Sys2Proof/Laws/PerInstr.lean ====
section
/-!
SUPPORT. The family OpcodeField: the `op` field of an instruction's command word is the instruction's opcode
(spec 30_encoding.md rules R116, R117), whatever its operands, if they fit their fields.
-/

namespace Sys2Proof.Laws

-- One lemma after another: see Tests/Slice0.lean.
set_option Elab.async false

theorem OpcodeField.packK_op {op card a b : Nat} (hop : op < 64) (hc : card < 8) (ha : a < 128) (hb : b < 65536) :
    (packK op card a b).op = op := by
  simp only [Word.op, packK, BitVec.toNat_ofNat]
  omega

theorem OpcodeField.flagBits_lt (s : Bool) : flagBits s < 65536 := by cases s <;> decide

theorem OpcodeField.schemeBits_lt (s : Scheme) : schemeBits s < 65536 := by cases s <;> decide

theorem OpcodeField.signedBits_lt (v : Int) : signedBits v < 65536 := by
  simp only [signedBits]
  omega

def OpcodeField.Statement (i : Instr) : Prop := i.wf = true → (encode i).op = i.opcode

theorem OpcodeField.sdo (card : Nat) (n : Nat) (state : Bool) : OpcodeField.Statement (.sdo card n state) := by
  intro h
  simp only [Instr.wf, fitsCard, fitsA, Bool.and_eq_true, decide_eq_true_eq] at h
  exact OpcodeField.packK_op (by decide) (by omega) (by omega) (OpcodeField.flagBits_lt _)

theorem OpcodeField.gdo (card : Nat) (n : Nat) : OpcodeField.Statement (.gdo card n) := by
  intro h
  simp only [Instr.wf, fitsCard, fitsA, Bool.and_eq_true, decide_eq_true_eq] at h
  exact OpcodeField.packK_op (by decide) (by omega) (by omega) (by decide)

theorem OpcodeField.sttl (card : Nat) (n : Nat) (state : Bool) : OpcodeField.Statement (.sttl card n state) := by
  intro h
  simp only [Instr.wf, fitsCard, fitsA, Bool.and_eq_true, decide_eq_true_eq] at h
  exact OpcodeField.packK_op (by decide) (by omega) (by omega) (OpcodeField.flagBits_lt _)

theorem OpcodeField.gttl (card : Nat) (n : Nat) : OpcodeField.Statement (.gttl card n) := by
  intro h
  simp only [Instr.wf, fitsCard, fitsA, Bool.and_eq_true, decide_eq_true_eq] at h
  exact OpcodeField.packK_op (by decide) (by omega) (by omega) (by decide)

theorem OpcodeField.smd (card : Nat) (rows : Nat) (cols : Nat) : OpcodeField.Statement (.smd card rows cols) := by
  intro h
  simp only [Instr.wf, fitsCard, fitsA, fitsCols, Bool.and_eq_true, decide_eq_true_eq] at h
  exact OpcodeField.packK_op (by decide) (by omega) (by omega) (by omega)

theorem OpcodeField.gmd (card : Nat) : OpcodeField.Statement (.gmd card) := by
  intro h
  simp only [Instr.wf, fitsCard, decide_eq_true_eq] at h
  exact OpcodeField.packK_op (by decide) (by omega) (by decide) (by decide)

theorem OpcodeField.sao (card : Nat) (n : Nat) (mv : Int) : OpcodeField.Statement (.sao card n mv) := by
  intro h
  simp only [Instr.wf, fitsCard, fitsA, fitsMillivolts, Bool.and_eq_true, decide_eq_true_eq] at h
  exact OpcodeField.packK_op (by decide) (by omega) (by omega) (OpcodeField.signedBits_lt _)

theorem OpcodeField.gao (card : Nat) (n : Nat) : OpcodeField.Statement (.gao card n) := by
  intro h
  simp only [Instr.wf, fitsCard, fitsA, Bool.and_eq_true, decide_eq_true_eq] at h
  exact OpcodeField.packK_op (by decide) (by omega) (by omega) (by decide)

theorem OpcodeField.enc (card : Nat) : OpcodeField.Statement (.enc card) := by
  intro h
  simp only [Instr.wf, fitsCard, decide_eq_true_eq] at h
  exact OpcodeField.packK_op (by decide) (by omega) (by decide) (by decide)

theorem OpcodeField.gdi (card : Nat) (n : Nat) : OpcodeField.Statement (.gdi card n) := by
  intro h
  simp only [Instr.wf, fitsCard, fitsA, Bool.and_eq_true, decide_eq_true_eq] at h
  exact OpcodeField.packK_op (by decide) (by omega) (by omega) (by decide)

theorem OpcodeField.gdia (card : Nat) : OpcodeField.Statement (.gdia card) := by
  intro h
  simp only [Instr.wf, fitsCard, decide_eq_true_eq] at h
  exact OpcodeField.packK_op (by decide) (by omega) (by decide) (by decide)

theorem OpcodeField.gai (card : Nat) (n : Nat) : OpcodeField.Statement (.gai card n) := by
  intro h
  simp only [Instr.wf, fitsCard, fitsA, Bool.and_eq_true, decide_eq_true_eq] at h
  exact OpcodeField.packK_op (by decide) (by omega) (by omega) (by decide)

theorem OpcodeField.gts (card : Nat) : OpcodeField.Statement (.gts card) := by
  intro h
  simp only [Instr.wf, fitsCard, decide_eq_true_eq] at h
  exact OpcodeField.packK_op (by decide) (by omega) (by decide) (by decide)

theorem OpcodeField.parse (card : Nat) : OpcodeField.Statement (.parse card) := by
  intro h
  simp only [Instr.wf, fitsCard, decide_eq_true_eq] at h
  exact OpcodeField.packK_op (by decide) (by omega) (by decide) (by decide)

theorem OpcodeField.start (card : Nat) : OpcodeField.Statement (.start card) := by
  intro h
  simp only [Instr.wf, fitsCard, decide_eq_true_eq] at h
  exact OpcodeField.packK_op (by decide) (by omega) (by decide) (by decide)

theorem OpcodeField.stop (card : Nat) : OpcodeField.Statement (.stop card) := by
  intro h
  simp only [Instr.wf, fitsCard, decide_eq_true_eq] at h
  exact OpcodeField.packK_op (by decide) (by omega) (by decide) (by decide)

theorem OpcodeField.live (card : Nat) : OpcodeField.Statement (.live card) := by
  intro h
  simp only [Instr.wf, fitsCard, decide_eq_true_eq] at h
  exact OpcodeField.packK_op (by decide) (by omega) (by decide) (by decide)

theorem OpcodeField.startall : OpcodeField.Statement .startall := by
  intro _
  exact OpcodeField.packK_op (by decide) (by decide) (by decide) (by decide)

theorem OpcodeField.stopall : OpcodeField.Statement .stopall := by
  intro _
  exact OpcodeField.packK_op (by decide) (by decide) (by decide) (by decide)

theorem OpcodeField.tick (card : Nat) : OpcodeField.Statement (.tick card) := by
  intro h
  simp only [Instr.wf, fitsCard, decide_eq_true_eq] at h
  exact OpcodeField.packK_op (by decide) (by omega) (by decide) (by decide)

theorem OpcodeField.rx (card : Nat) : OpcodeField.Statement (.rx card) := by
  intro h
  simp only [Instr.wf, fitsCard, decide_eq_true_eq] at h
  exact OpcodeField.packK_op (by decide) (by omega) (by decide) (by decide)

theorem OpcodeField.rxwait (card : Nat) : OpcodeField.Statement (.rxwait card) := by
  intro h
  simp only [Instr.wf, fitsCard, decide_eq_true_eq] at h
  exact OpcodeField.packK_op (by decide) (by omega) (by decide) (by decide)

theorem OpcodeField.lookup (pin : Nat) (scheme : Scheme) : OpcodeField.Statement (.lookup pin scheme) := by
  intro h
  simp only [Instr.wf, fitsA, decide_eq_true_eq] at h
  exact OpcodeField.packK_op (by decide) (by decide) (by omega) (OpcodeField.schemeBits_lt _)

theorem OpcodeField.route (pin : Nat) (scheme : Scheme) : OpcodeField.Statement (.route pin scheme) := by
  intro h
  simp only [Instr.wf, fitsA, decide_eq_true_eq] at h
  exact OpcodeField.packK_op (by decide) (by decide) (by omega) (OpcodeField.schemeBits_lt _)

theorem OpcodeField.clrall : OpcodeField.Statement .clrall := by
  intro _
  exact OpcodeField.packK_op (by decide) (by decide) (by decide) (by decide)

theorem OpcodeField.clrbits (pattern : Pattern) : OpcodeField.Statement (.clrbits pattern) := by
  intro _
  exact OpcodeField.packK_op (by decide) (by decide) (by decide) pattern.isLt

theorem OpcodeField.pwr (subject : Nat) : OpcodeField.Statement (.pwr subject) := by
  intro h
  simp only [Instr.wf, fitsA, decide_eq_true_eq] at h
  exact OpcodeField.packK_op (by decide) (by decide) (by omega) (by decide)

theorem OpcodeField.pup (subject : Nat) : OpcodeField.Statement (.pup subject) := by
  intro h
  simp only [Instr.wf, fitsA, decide_eq_true_eq] at h
  exact OpcodeField.packK_op (by decide) (by decide) (by omega) (by decide)

theorem OpcodeField.lgc (subject : Nat) : OpcodeField.Statement (.lgc subject) := by
  intro h
  simp only [Instr.wf, fitsA, decide_eq_true_eq] at h
  exact OpcodeField.packK_op (by decide) (by decide) (by omega) (by decide)

theorem OpcodeField.sct : OpcodeField.Statement .sct := by
  intro _
  exact OpcodeField.packK_op (by decide) (by decide) (by decide) (by decide)

theorem OpcodeField.rft (pairA : Nat) (pairB : Nat) : OpcodeField.Statement (.rft pairA pairB) := by
  intro h
  simp only [Instr.wf, fitsA, fitsPairB, Bool.and_eq_true, decide_eq_true_eq] at h
  exact OpcodeField.packK_op (by decide) (by decide) (by omega) (by omega)

theorem OpcodeField.runseq : OpcodeField.Statement .runseq := by
  intro _
  exact OpcodeField.packK_op (by decide) (by decide) (by decide) (by decide)

theorem OpcodeField.reqstop : OpcodeField.Statement .reqstop := by
  intro _
  exact OpcodeField.packK_op (by decide) (by decide) (by decide) (by decide)

theorem OpcodeField.close : OpcodeField.Statement .close := by
  intro _
  exact OpcodeField.packK_op (by decide) (by decide) (by decide) (by decide)

end Sys2Proof.Laws
end

