-- ==== Sys2Proof/Laws/Run.lean ====
section
/-!
SUPPORT. A run, one input at a time.
-/

namespace Sys2Proof.Machine

theorem stepN_zero (s : State) : stepN 0 s = .next s := rfl

/-- The worker's turn comes first. -/
theorem stepN_worker {n : Nat} {s : State} {l : List Input} (h : s.env.agenda = .worker :: l) :
    stepN (n + 1) s = stepN n (workerStep (s.setEnv { s.env with agenda := l })) := by
  simp only [stepN, step, fetchInput, h, runInput]

/-- The clock comes first. -/
theorem stepN_clock {n : Nat} {s : State} {l : List Input} {t : Time} (h : s.env.agenda = .clock t :: l) :
    stepN (n + 1) s = stepN n (s.setEnv { s.env with agenda := l, now := max s.env.now t }) := by
  simp only [stepN, step, fetchInput, h, runInput]
  rfl

/-- A request comes first. -/
theorem stepN_command {n : Nat} {s t : State} {l : List Input} {w : Word} {i : Instr}
    (h : s.env.agenda = .command w :: l) (hd : decode w = .ok i) (hi : i.isEvent = false)
    (he : exec i (s.setEnv { s.env with agenda := l }) = .next t) : stepN (n + 1) s = stepN n t := by
  simp [stepN, step, fetchInput, h, runInput, runCommand, hd, hi, he]

end Sys2Proof.Machine
end

