-- ==== Sys2Proof/Laws/Turn.lean ====
section
/-!
SUPPORT. Turns of the worker: what being taken out of a wait and standing at a step leave in each field, the turn of a
worker that is ready, when a frame has come in time, and what a stimulus and a failing router operation leave of the
check in progress.
-/

namespace Sys2Proof.Machine

/-! ## `awake` -/

@[simp] theorem State.awake_cfg (s : State) : s.awake.cfg = s.cfg := rfl
@[simp] theorem State.awake_fleet (s : State) : s.awake.fleet = s.fleet := rfl
@[simp] theorem State.awake_pins (s : State) : s.awake.pins = s.pins := rfl
@[simp] theorem State.awake_facadeClosed (s : State) : s.awake.facadeClosed = s.facadeClosed := rfl
@[simp] theorem State.awake_fleetOps (s : State) : s.awake.fleetOps = s.fleetOps := rfl
@[simp] theorem State.awake_subj (s : State) : s.awake.subj = s.subj := rfl
@[simp] theorem State.awake_stopRequested (s : State) : s.awake.stopRequested = s.stopRequested := rfl
@[simp] theorem State.awake_busy (s : State) : s.awake.busy = s.busy := rfl
@[simp] theorem State.awake_env (s : State) : s.awake.env = s.env := rfl
@[simp] theorem State.awake_responses (s : State) : s.awake.responses = s.responses := rfl
@[simp] theorem State.awake_log (s : State) : s.awake.log = s.log := rfl
@[simp] theorem State.awake_facade (s : State) : s.awake.facade = s.facade := rfl
@[simp] theorem State.awake_pos (s : State) : s.awake.pos = s.pos := rfl
@[simp] theorem State.awake_work (s : State) : s.awake.work = { s.work with wake := none } := rfl

/-! ## `atStep` -/

@[simp] theorem State.atStep_cfg (s : State) (n : Nat) (w : Work) : (s.atStep n w).cfg = s.cfg := rfl
@[simp] theorem State.atStep_fleet (s : State) (n : Nat) (w : Work) : (s.atStep n w).fleet = s.fleet := rfl
@[simp] theorem State.atStep_pins (s : State) (n : Nat) (w : Work) : (s.atStep n w).pins = s.pins := rfl
@[simp] theorem State.atStep_facadeClosed (s : State) (n : Nat) (w : Work) : (s.atStep n w).facadeClosed = s.facadeClosed := rfl
@[simp] theorem State.atStep_fleetOps (s : State) (n : Nat) (w : Work) : (s.atStep n w).fleetOps = s.fleetOps := rfl
@[simp] theorem State.atStep_subj (s : State) (n : Nat) (w : Work) : (s.atStep n w).subj = s.subj := rfl
@[simp] theorem State.atStep_stopRequested (s : State) (n : Nat) (w : Work) : (s.atStep n w).stopRequested = s.stopRequested := rfl
@[simp] theorem State.atStep_busy (s : State) (n : Nat) (w : Work) : (s.atStep n w).busy = s.busy := rfl
@[simp] theorem State.atStep_env (s : State) (n : Nat) (w : Work) : (s.atStep n w).env = s.env := rfl
@[simp] theorem State.atStep_responses (s : State) (n : Nat) (w : Work) : (s.atStep n w).responses = s.responses := rfl
@[simp] theorem State.atStep_log (s : State) (n : Nat) (w : Work) : (s.atStep n w).log = s.log := rfl
@[simp] theorem State.atStep_facade (s : State) (n : Nat) (w : Work) : (s.atStep n w).facade = s.facade := rfl
@[simp] theorem State.atStep_pos (s : State) (n : Nat) (w : Work) : (s.atStep n w).pos = { s.pos with step := n } := rfl
@[simp] theorem State.atStep_work (s : State) (n : Nat) (w : Work) : (s.atStep n w).work = { w with sub := 0 } := rfl

/-- Going to a step keeps the values of the check. -/
theorem State.goto_eq_atStep (s : State) (n : Nat) : s.goto n = s.atStep n s.work := rfl

/-- Leaving with a reason. -/
theorem State.failTo_eq_atStep (s : State) (r : Reason) (n : Nat) :
    s.failTo r n = s.atStep n { s.work with pass := false, reason := r } := rfl

/-! ## The turn -/

/-- A worker that is not suspended is awake already. -/
theorem State.awake_of_wake_none {s : State} (h : s.work.wake = none) : s.awake = s :=
  show { s with work := { s.work with wake := none } } = s by rw [← h]

/-- The turn of a worker that is ready is the engine's next step, out of the wait. -/
theorem workerStep_ready {s : State} (h : s.ready) : workerStep s = engineStep s.awake := by
  simp only [workerStep, h.1, ↓reduceIte]
  split
  · rw [State.awake_of_wake_none ‹_›]
  · rename_i t ht
    rw [if_neg (not_lt.mpr (h.2 t ht))]
    rfl

/-- A worker that is not ready takes no step. -/
theorem workerStep_not_ready {s : State} (h : ¬ s.ready) : workerStep s = s := by
  unfold workerStep
  split
  · rename_i hb
    split
    · rename_i hw
      exact absurd ⟨hb, fun t ht => by simp [hw] at ht⟩ h
    · rename_i t ht
      split
      · rfl
      · rename_i hn
        exact absurd ⟨hb, fun t' ht' => by simp only [ht, Option.some.injEq] at ht'; subst ht'; exact not_lt.mp hn⟩ h
  · rfl

/-! ## Fresh frames -/

/-- A fresh frame came in time exactly when one of the accepted frames did (R192). -/
theorem freshBy_iff (t0 deadline : Time) (ch : Channel) :
    freshBy t0 deadline ch = true ↔ ∃ t ∈ ch.rxTimes, t0 < t ∧ t ≤ deadline := by
  simp [freshBy, List.any_eq_true]

/-! ## The turn of a check -/

/-- The turn of a check of a subject, past its stop point. -/
theorem workerStep_subject {s : State} {sub : Subject} (h : s.ready) (hs : s.subj[s.pos.idx]? = some sub)
    (h0 : s.pos.step ≠ 0) :
    (s.pos.phase = .power → workerStep s = powerStep sub s.awake) ∧
    (s.pos.phase = .pullUp → workerStep s = pullUpStep sub s.awake) ∧
    (s.pos.phase = .logic → workerStep s = logicStep sub s.awake) := by
  rw [workerStep_ready h]
  simp only [engineStep, State.awake_pos]
  refine ⟨?_, ?_, ?_⟩ <;> intro hp <;> rw [hp] <;> simp [subjectStep, hs, h0]

/-- The turn of ShortCircuitTest. -/
theorem workerStep_sweep {s : State} (h : s.ready) (hp : s.pos.phase = .sweep) :
    workerStep s = sweepStep s.awake := by
  rw [workerStep_ready h]
  simp only [engineStep, State.awake_pos, hp]

/-- The turn of RelayFuseTest. -/
theorem workerStep_relay {s : State} (h : s.ready) (hp : s.pos.phase = .relayFuse) :
    workerStep s = relayStep s.awake := by
  rw [workerStep_ready h]
  simp only [engineStep, State.awake_pos, hp]

/-! ## Stimuli -/

theorem neutral_eq_zero (k : StimKind) : neutral k = 0 := by cases k <;> rfl

/-- A stimulus writes nothing of the engine and no time: it changes the fleet and the draws of ties (R222). -/
theorem applyStimulus_engine (d : Stimulus) (v : Int) (s : State) :
    (applyStimulus d v s).2.work = s.work ∧ (applyStimulus d v s).2.pos = s.pos ∧
      (applyStimulus d v s).2.busy = s.busy ∧ (applyStimulus d v s).2.pins = s.pins ∧
      (applyStimulus d v s).2.env.now = s.env.now := by
  have hn : (applyStimulus d v s).2.env.now = s.env.now := by
    rw [((WorkerFrame.refl s).applyStimulus d v).2.2.2.2.1]
  refine ⟨?_, ?_, ?_, ?_, hn⟩ <;> unfold applyStimulus <;> split
  all_goals
    first
    | obtain ⟨up, e, -, h⟩ := fleetSetAnalog_cases d.card d.number (v : Rat) s
      simp only [h]
      rcases fleetSet_cases d.card (SendRegs.setAnalog s.cfg.roundTie up d.number v) (s.setEnv e) with
        ⟨-, e⟩ | ⟨ch, er, -, -, e⟩ | ⟨ch, r, hc, -, e⟩ <;> simp [e]
    | split
      · rcases fleetSet_cases d.card (SendRegs.setDigital d.number (decide (v = 1))) s with
          ⟨-, e⟩ | ⟨ch, er, -, -, e⟩ | ⟨ch, r, hc, -, e⟩ <;> simp [e]
      · rfl

/-! ## Failing router operations -/

/-- The reason of a line whose write failed. -/
theorem driveLines_error {l : Bool} {is : List (Fin 16)} {s t : State} {e : Err}
    (h : driveLines l is s = (some e, t)) : reasonOf e = .facadeFailure := by
  induction is generalizing s with
  | nil => simp [driveLines] at h
  | cons i is ih =>
    simp only [driveLines] at h
    split at h
    · exact ih h
    · simp only [Prod.mk.injEq, Option.some.injEq] at h
      obtain ⟨rfl, -⟩ := h
      rfl

/-- A route of a legal pin fails at the facade only (R208, R230). -/
theorem routePin_error {pin : Int} {sch : Scheme} {s t : State} {e : Err} (hl : 1 ≤ pin ∧ pin ≤ 50)
    (h : routePin pin sch s = (some e, t)) : reasonOf e = .facadeFailure := by
  simp only [routePin, lookupPattern, dif_pos hl] at h
  exact driveLines_error h

theorem routeClean_error {pin : Int} {sch : Scheme} {s t : State} {e : Err} (hl : 1 ≤ pin ∧ pin ≤ 50)
    (h : routeClean pin sch s = (some e, t)) : reasonOf e = .facadeFailure := by
  simp only [routeClean] at h
  have hk : clearAllLines s = ((clearAllLines s).1, (clearAllLines s).2) := rfl
  cases hc : (clearAllLines s).1 with
  | some e' =>
    rw [hc] at h hk
    simp only [Prod.mk.injEq, Option.some.injEq] at h
    obtain ⟨rfl, -⟩ := h
    exact driveLines_error hk
  | none =>
    rw [hc] at h
    exact routePin_error hl h

/-! ## The return of a check -/

/-- A check of its own gives its response and leaves the engine idle (R220). -/
theorem State.finish_alone {s : State} (h : s.work.inSeq = false) (r : CheckResult) :
    s.finish r = s.endSequence.respond (.okValue (.check r)) := by simp [State.finish, h]

end Sys2Proof.Machine
end

