-- ==== Sys2Proof/Tests/Slice0.lean ====
section
/-!
SUPPORT. Tests of the model against the test vectors of the spec (95_test_vectors.md), a smoke test of every check of
WellFormed, and for every statement with hypotheses a state and operands that meet them.
-/

namespace Sys2Proof.Tests

-- One theorem after another: elaborated all at once, so many small theorems ask for more threads than the check's
-- memory bound leaves room for.
set_option Elab.async false

open Sys2Proof Sys2Proof.Machine

/-! ## A small machine: the invented configuration of programs 1 to 5 (95_test_vectors.md, section 3) -/

def tCard : Option CardCfg := some { enabled := true, txEndpoint := 1, rxEndpoint := 2 }

/-- Cards 1 and 2 enabled; header AA 55; `linePin(i) = 100 + i`; the table entries of programs 3 and 4. -/
def tCfg : Cfg :=
  { card := #v[tCard, tCard, none, none, none, none, none]
    header0 := 0xAA#8
    header1 := 0x55#8
    tableA := (((Vector.replicate 50 0).set 16 0x0025#16).set 4 0x0011#16).set 2 0x0006#16
    tableB := ((Vector.replicate 50 0).set 16 0x0A00#16).set 11 0x0300#16
    linePin := #v[100, 101, 102, 103, 104, 105, 106, 107, 108, 109, 110, 111, 112, 113, 114, 115]
    pairOf := (Vector.replicate 50 1).set 11 2
    pairs := [(1, { measPin := 200, pullupPin := 201, relay1 := 202, relay2 := 203 }),
      (2, { measPin := 210, pullupPin := 211, relay1 := 212, relay2 := 213 })]
    sharedPullup := [((1, 2), 300)]
    tol := 1 / 5
    settle := 1 / 10
    lowThreshold := 1 / 2
    verifyWait := 1 / 2 }

/-- Subject 0 of program 5. -/
def tInput0 : SubjectInput :=
  { pinId := ['A', '1'], pin := 5, powerExpected := 0, pullupExpected := 33 / 10, powerInput := ['n', 'o', 'n', 'e'],
    pullupInput := ['G'], logicPinInput := ['A', '2'], logicExpected := ['C', '1', '_', 'D', 'I', '3', '_', '1'] }

/-- Subject 1 of program 5. -/
def tInput1 : SubjectInput :=
  { pinId := ['A', '2'], pin := 12, powerExpected := 0, pullupExpected := 33 / 10, powerInput := [],
    pullupInput := ['G'], logicPinInput := ['A', '1'], logicExpected := ['C', '1', '_', 'D', 'I', '4', '_', '0'] }

/-- The block after construction from that configuration (R300). -/
def tNew : State := State.construct tCfg [tInput0, tInput1] 0

/-- The same, with answers listed for the draws to come. -/
def tState : State :=
  tNew.setEnv { tNew.env with
    binds := List.replicate 7 true
    sends := [true, false]
    writes := List.replicate 100 true
    reads := [some (1 / 100), some (13 / 4)] }

/-- The received buffer of vector C19. -/
def tFrame : Datagram :=
  [0x12, 0x34, 0x11, 0x09, 0x01, 0x80, 0, 0, 0, 0x80, 0x34, 0x12, 0xDE, 0xAD, 0xBE, 0xEF, 0x68, 0x2F, 0x2F, 0xA1] ++
    List.replicate 26 0 ++ [0xFF, 0x7F, 0x01] ++ List.replicate 14 0 ++ [0xFF]

def tBuf : RxBuffer := (toRxBuffer tFrame).getD (Vector.replicate 64 0)

/-- Card 2 as after step 5 of program 2: running, the frame C19 accepted at 10. -/
def tCh2 : Channel :=
  { Channel.fresh 2 { enabled := true, txEndpoint := 1, rxEndpoint := 2 } with
    run := .running, rf := some tBuf, lastRx := some 10, rxTimes := [10], rxCount := 1, startedAt := some 0 }

/-- Program 2 at time 11, with a good and a short datagram in flight to card 2. -/
def tRun : State :=
  (tState.setChan 2 tCh2).setEnv
    { tState.env with now := 11, rxWire := tState.env.rxWire.set 1 [tFrame, tFrame.take 63] }

/-- Both subjects with a passed PowerTest near zero, as after order 2 of program 5, at the boundaries of the
eligibility rules. -/
def tPassed : State :=
  tState.setSubj
    [{ Subject.fresh tInput0 with powerResult := .pass, powerMeasured := some (1 / 5) },
     { Subject.fresh tInput1 with powerResult := .pass, powerMeasured := some (-1 / 5) }]

/-- The state an instruction leaves. -/
def after (i : Instr) (s : State) : State :=
  match exec i s with
  | .next t => t
  | .fault _ => s
  | .refused _ => s

/-- A STARTALL or STOPALL, and its caller's seven turns with no other agent between. -/
def whole (i : Instr) (s : State) : State := Nat.repeat (callerStep s.fleetOps.length) 7 (after i s)

/-- The response an instruction gives. -/
def answered (i : Instr) (s : State) : Option Response := (after i s).responses.head?

/-- One step taken by the worker. -/
def turn (s : State) : State := workerStep s

/-- The state with an input next in the agenda. -/
def withInput (i : Input) (s : State) : State := s.prepend i

/-! ## WellFormed: an ill-formed term for each check (R116, R118) -/

theorem test_wf_card : (Instr.sdo 8 1 true).wf = false := by decide
theorem test_wf_a : (Instr.gdo 1 128).wf = false := by decide
theorem test_wf_cols : (Instr.smd 1 3 256).wf = false := by decide
theorem test_wf_millivolts_high : (Instr.sao 1 0 32768).wf = false := by decide
theorem test_wf_millivolts_low : (Instr.sao 1 0 (-32769)).wf = false := by decide
theorem test_wf_pair_b : (Instr.rft 1 128).wf = false := by decide
theorem test_wf_out_of_domain_is_expressible : (Instr.sdo 1 33 true).wf = true := by decide

/-! ## Decoding: the words of 95_test_vectors.md section 2.10, and others written out from R116 to R118 -/

theorem test_decode_sdo : decode 0x04850001#32 = .ok (.sdo 1 5 true) := by decide
theorem test_decode_sdo_false : decode 0x04850000#32 = .ok (.sdo 1 5 false) := by decide
theorem test_decode_gdo : decode 0x08850000#32 = .ok (.gdo 1 5) := by decide
theorem test_decode_sttl : decode 0x0C890001#32 = .ok (.sttl 1 9 true) := by decide
theorem test_decode_gttl : decode 0x10890000#32 = .ok (.gttl 1 9) := by decide
theorem test_decode_smd : decode 0x14830004#32 = .ok (.smd 1 3 4) := by decide
theorem test_decode_gmd : decode 0x18800000#32 = .ok (.gmd 1) := by decide
theorem test_decode_sao : decode 0x1C801388#32 = .ok (.sao 1 0 5000) := by decide
theorem test_decode_sao_negative : decode 0x1C87CB44#32 = .ok (.sao 1 7 (-13500)) := by decide
theorem test_decode_gao : decode 0x20800000#32 = .ok (.gao 1 0) := by decide
theorem test_decode_enc : decode 0x24800000#32 = .ok (.enc 1) := by decide
theorem test_decode_gdi : decode 0x290C0000#32 = .ok (.gdi 2 12) := by decide
theorem test_decode_gdia : decode 0x2D000000#32 = .ok (.gdia 2) := by decide
theorem test_decode_gai : decode 0x31000000#32 = .ok (.gai 2 0) := by decide
theorem test_decode_gts : decode 0x35000000#32 = .ok (.gts 2) := by decide
theorem test_decode_parse : decode 0x39000000#32 = .ok (.parse 2) := by decide
theorem test_decode_start : decode 0x41000000#32 = .ok (.start 2) := by decide
theorem test_decode_stop : decode 0x45000000#32 = .ok (.stop 2) := by decide
theorem test_decode_live : decode 0x49000000#32 = .ok (.live 2) := by decide
theorem test_decode_startall : decode 0x4C000000#32 = .ok .startall := by decide
theorem test_decode_stopall : decode 0x50000000#32 = .ok .stopall := by decide
theorem test_decode_tick : decode 0x55000000#32 = .ok (.tick 2) := by decide
theorem test_decode_rx : decode 0x59000000#32 = .ok (.rx 2) := by decide
theorem test_decode_rxwait : decode 0x5D000000#32 = .ok (.rxwait 2) := by decide
theorem test_decode_lookup : decode 0x80110000#32 = .ok (.lookup 17 .A) := by decide
theorem test_decode_route_a : decode 0x84110000#32 = .ok (.route 17 .A) := by decide
theorem test_decode_route_b : decode 0x84110001#32 = .ok (.route 17 .B) := by decide
theorem test_decode_clrall : decode 0x88000000#32 = .ok .clrall := by decide
theorem test_decode_clrbits : decode 0x8C000A00#32 = .ok (.clrbits 0x0A00#16) := by decide
theorem test_decode_pwr : decode 0xA0000000#32 = .ok (.pwr 0) := by decide
theorem test_decode_pup : decode 0xA4010000#32 = .ok (.pup 1) := by decide
theorem test_decode_lgc : decode 0xA8020000#32 = .ok (.lgc 2) := by decide
theorem test_decode_sct : decode 0xAC000000#32 = .ok .sct := by decide
theorem test_decode_rft : decode 0xB0010002#32 = .ok (.rft 1 2) := by decide
theorem test_decode_runseq : decode 0xB4000000#32 = .ok .runseq := by decide
theorem test_decode_reqstop : decode 0xB8000000#32 = .ok .reqstop := by decide
theorem test_decode_close : decode 0xBC000000#32 = .ok .close := by decide

/-- Section 2.10, last row: the unassigned opcodes 0x00, 0x0F, 0x18, 0x3F. -/
theorem test_decode_unassigned :
    decode 0x00000000#32 = .error (.unassigned 0x00) ∧ decode 0x3C000000#32 = .error (.unassigned 0x0F) ∧
    decode 0x60000000#32 = .error (.unassigned 0x18) ∧ decode 0xFC000000#32 = .error (.unassigned 0x3F) := by decide

/-- R116: fields an operation does not use are ignored. -/
theorem test_decode_ignores_unused : decode 0xBFFFFFFF#32 = .ok .close := by decide

/-- R118: the columns are `b[7:0]`, the second pair is `b[6:0]`. -/
theorem test_decode_narrow_fields :
    decode 0x1483FF04#32 = .ok (.smd 1 3 4) ∧ decode 0xB001FF82#32 = .ok (.rft 1 2) := by decide

/-! ## The card operations (95_test_vectors.md sections 1, 2.1 to 2.4, program 1) -/

/-- B6: DO32 is bit 7 of byte 5. -/
theorem test_sdo_bit : (answered (.enc 1) (after (.sdo 1 32 true) tState)) =
    some (.okValue (.bytes ([0xAA, 0x55, 0, 0, 0, 0x80] ++ List.replicate 26 0))) := by decide +kernel

/-- C2. -/
theorem test_sdo_range : answered (.sdo 1 33 true) tState =
    some (.error { cls := .rangeError, info := .operand 33 }) := by decide +kernel

theorem test_gdo : answered (.gdo 1 5) (after (.sdo 1 5 true) tState) = some (.okValue (.bool true)) := by decide +kernel

/-- C18: TTL9 is bit 0 of byte 7. -/
theorem test_sttl : answered (.enc 1) (after (.sttl 1 9 true) tState) =
    some (.okValue (.bytes ([0xAA, 0x55, 0, 0, 0, 0, 0, 1] ++ List.replicate 24 0))) := by decide +kernel

theorem test_gttl : answered (.gttl 1 9) (after (.sttl 1 9 true) tState) = some (.okValue (.bool true)) := by
  decide +kernel

/-- C5: `setMatrixDimensions(2, 9)` leaves ROWS at 0. -/
theorem test_smd_both_or_none : answered (.gmd 1) (after (.smd 1 2 9) tState) = some (.okValue (.dims 0 0)) := by
  decide +kernel

/-- C6. -/
theorem test_smd : answered (.gmd 1) (after (.smd 1 8 8) tState) = some (.okValue (.dims 8 8)) := by decide +kernel

/-- V2 and Scenario B (R161): 5 V is raw 12136, and reads back as 40959/8192 V. -/
theorem test_sao_gao : answered (.gao 1 0) (after (.sao 1 0 5000) tState) =
    some (.okValue (.volts (40959 / 8192))) := by decide +kernel

/-- V6: 13.5 V is clamped to raw 32767. -/
theorem test_sao_clamp : ((after (.sao 1 7 13500) tState).chan 1).map (fun ch => ch.sf.ao[7]) = some 0x7FFF#16 := by
  decide +kernel

/-- C8: 13.501 V is refused, not clamped. -/
theorem test_sao_range : answered (.sao 1 0 13501) tState =
    some (.error { cls := .rangeError, info := .voltage (13501 / 1000) }) := by decide +kernel

/-- C8b: -13.5 V is `00 80` at offsets 26 and 27. -/
theorem test_sao_image : answered (.enc 1) (after (.sao 1 7 (-13500)) tState) =
    some (.okValue (.bytes ([0xAA, 0x55] ++ List.replicate 24 0 ++ [0x00, 0x80, 0, 0, 0, 0]))) := by decide +kernel

/-- V26: a tie goes as `Cfg.roundTie` says. -/
theorem test_round_tie : encodeVolt .halfEven false (27 / 131072) = 0 ∧ encodeVolt .halfAway false (27 / 131072) = 1 ∧
    encodeVolt .halfEven false (81 / 131072) = 2 ∧ encodeVolt .draw true (27 / 131072) = 1 := by decide +kernel

/-- Scenario A (R161). -/
theorem test_scenario_a : ((setDigitalOutputs 1 [1, 5, 9, 17, 32] tState).chan 1).map
    (fun ch => (imageOf tCfg ch).take 6) = some [0xAA, 0x55, 0x11, 0x01, 0x01, 0x80] := by decide +kernel

/-- B18: an illegal element leaves every output unchanged. -/
theorem test_list_refused : ((setDigitalOutputs 1 [5, 33] tState).chan 1).map (fun ch => ch.sf.dout) = some 0 := by
  decide +kernel

/-- C19: DI12 is true and DI13 is false. -/
theorem test_gdi : answered (.gdi 2 12) tRun = some (.okValue (.bool true)) ∧
    answered (.gdi 2 13) tRun = some (.okValue (.bool false)) := by decide +kernel

/-- C14, C15: before any frame, and the index first. -/
theorem test_gdi_no_frame : answered (.gdi 1 3) tState = some .absent ∧
    answered (.gdi 1 65) tState = some (.error { cls := .rangeError, info := .operand 65 }) := by decide +kernel

/-- C19. -/
theorem test_gdia : answered (.gdia 2) tRun = some (.okValue (.numbers [1, 5, 9, 12, 17, 32, 64])) := by decide +kernel

/-- C19: the analog inputs 1 and 15. -/
theorem test_gai : answered (.gai 2 1) tRun = some (.okValue (.volts (-24273 * 27 / 65536))) ∧
    answered (.gai 2 15) tRun = some (.okValue (.volts (32767 * 27 / 65536))) := by decide +kernel

/-- C19: the TTL status word is unsigned, little-endian. -/
theorem test_gts : answered (.gts 2) tRun = some (.okValue (.word 4660)) := by decide +kernel

/-- C10: a payload of 63 bytes. -/
theorem test_parse_short : answered (.parse 2) (after (.parse 2) tRun) =
    some (.error { cls := .formatError, info := .length 63 }) := by decide +kernel

/-- PARSE stores the payload and leaves the timestamp and the counters (R152). -/
theorem test_parse : ((after (.parse 2) tRun).chan 2).map (fun ch => (ch.lastRx, ch.rxCount)) = some (some 10, 1) := by
  decide +kernel

/-! ## Channels (95_test_vectors.md section 2.6, program 2) -/

/-- Program 2, step 1, and vector T9: a bind that fails. -/
theorem test_start : answered (.start 2) tState = some (.okValue (.bool true)) ∧
    answered (.start 2) (tState.setEnv { tState.env with binds := [false] }) = some (.okValue (.bool false)) := by
  decide +kernel

/-- T8: a stopped channel is not started again. -/
theorem test_stop_start : answered (.start 2) (after (.stop 2) tRun) = some (.okValue (.bool false)) := by decide +kernel

/-- L4, L5: the boundary is inclusive. -/
theorem test_live : answered (.live 2) (tRun.setEnv { tRun.env with now := 12 }) = some (.okValue (.bool true)) ∧
    answered (.live 2) (tRun.setEnv { tRun.env with now := 12001 / 1000 }) = some (.okValue (.bool false)) := by
  decide +kernel

theorem test_startall : (whole .startall tState).responses = [.okValue (.started [(1, true), (2, true)])] ∧
    (whole .startall tState).fleetOps = [] := by decide +kernel

theorem test_stopall : ((whole .stopall tRun).chan 2).map Channel.run = some .stopped ∧
    ((whole .stopall tRun).chan 1).map Channel.run = some .created := by decide +kernel

/-- A STOPALL of another caller between the first two cards of a STARTALL: card 1 ends Stopped, card 2 Running (R16,
R79, R171, R172). -/
theorem test_stopall_inside_startall :
    let s := Nat.repeat (callerStep 0) 6 (Nat.repeat (callerStep 1) 7 (after .stopall (callerStep 0
      (after .startall tState))))
    (s.chan 1).map Channel.run = some .stopped ∧ (s.chan 2).map Channel.run = some .running ∧
      s.responses = [.okValue (.started [(1, true), (2, true)]), .ok] := by decide +kernel

/-- E2: the image of the reset registers is transmitted. -/
theorem test_tick : ((after (.tick 2) tRun).chan 2).map Channel.lastTx =
    some (some ([0xAA, 0x55] ++ List.replicate 30 0)) := by decide +kernel

/-- The machine later. -/
def later (t : Time) (s : State) : State := s.setEnv (s.env.clockAt t)

/-- T3: the second transmit, a period later, fails; R174: a second tick of one instant does not occur. -/
theorem test_tick_fails : ((after (.tick 2) (later (221 / 20) (after (.tick 2) tRun))).chan 2).map
      (fun ch => (ch.txCount, ch.txErrors, ch.run)) = some (1, 1, .running) ∧
    after (.tick 2) (later (1104 / 100) (after (.tick 2) tRun)) = later (1104 / 100) (after (.tick 2) tRun) := by
  decide +kernel

/-- T4. -/
theorem test_rx : ((after (.rx 2) tRun).chan 2).map (fun ch => (ch.lastRx, ch.rxCount)) = some (some 11, 2) := by
  decide +kernel

/-- T5, L8: the short datagram is dropped and does not refresh. -/
theorem test_rx_short : ((after (.rx 2) (after (.rx 2) tRun)).chan 2).map
    (fun ch => (ch.rxCount, ch.rxDropped)) = some (2, 1) := by decide +kernel

theorem test_rxwait : after (.rxwait 2) tRun = tRun := rfl

/-! ## The router (95_test_vectors.md section 2.8, program 3) -/

theorem test_lookup : answered (.lookup 17 .A) tState = some (.okValue (.pattern 0x0025#16)) ∧
    answered (.lookup 51 .A) tState = some (.error { cls := .rangeError, info := .operand 51 }) := by decide +kernel

/-- R9: three writes, the other lines still without a value. -/
theorem test_route : (after (.route 17 .A) tState).pins = [(100, true), (102, true), (105, true)] := by decide +kernel

/-- R10: the second write fails. -/
theorem test_route_fails :
    (after (.route 5 .A) (tState.setEnv { tState.env with writes := [true, false] })).pins = [(100, true)] ∧
    answered (.route 5 .A) (tState.setEnv { tState.env with writes := [true, false] }) =
      some (.error { cls := .facadeFailure, info := .line 4 }) := by decide +kernel

/-- R1. -/
theorem test_clrall : (after .clrall tState).pins.map Prod.snd = List.replicate 16 false ∧
    (after .clrall tState).facade.length = 16 := by decide +kernel

/-- R4: from R3, lines 9 and 11 go LOW. -/
theorem test_clrbits : (after (.clrbits 0x0A00#16) (after (.route 17 .B) tState)).pins =
    [(109, false), (111, false)] := by decide +kernel

/-! ## The engine: requests and single steps (95_test_vectors.md section 2.9, programs 4 and 5) -/

theorem test_pwr : (after (.pwr 1) tState).pos = { phase := .power, idx := 1, step := 1 } := by decide +kernel

/-- K5: PullUpTest without a passed PowerTest is skipped, with no facade call. -/
theorem test_pup_skipped : answered (.pup 0) tState = some (.okValue .skipped) ∧ (after (.pup 0) tState).facade = [] := by
  decide +kernel

/-- K8a: a LogicTest at a measured voltage that does not exceed the threshold runs. -/
theorem test_lgc : (after (.lgc 0) tPassed).pos = { phase := .logic, idx := 0, step := 1 } := by decide +kernel

theorem test_sct : (after .sct tState).pos = { phase := .sweep, idx := 1, step := 1 } := by decide +kernel

/-- K10: the relays of both pairs and the shared pull-up go HIGH at F2, after the seven turns of F1. -/
theorem test_rft : (Nat.repeat turn 8 (after (.rft 1 2) tState)).pins =
    [(202, true), (203, true), (212, true), (213, true), (300, true)] := by decide +kernel

theorem test_runseq : answered .runseq tState = some .ok ∧
    (turn (after .runseq tState)).pos = { phase := .power, idx := 0, step := 1 } := by decide +kernel

/-- R313: refused while busy. -/
theorem test_busy : answered .sct (after .runseq tState) = some .refused := by decide +kernel

/-- A sweep stopped at its first pin drives every control line LOW and returns an empty list (R229, R264). -/
theorem test_sweep_stopped : let s := turn (turn (after .sct (after .reqstop tState)))
    s.pins.map Prod.snd = List.replicate 16 false ∧ s.busy = false ∧
      s.responses.head? = some (.okValue (.check { measured := .shorts [], pass := true, reason := .ok })) := by
  decide +kernel

/-- A stop request before the first check ends the sequence (R263, R264). -/
theorem test_reqstop : (turn (after .reqstop (after .runseq tState))).busy = false := by decide +kernel

theorem test_close : (after .close tState).facadeClosed = true ∧
    answered .clrall (after .close tState) = some (.error { cls := .facadeFailure, info := .line 0 }) := by decide +kernel

/-- S1, S3, S5, S6, S9, S10: directives. -/
theorem test_directives :
    parseStimulus ['C', '2', '_', 'A', 'O', '2', '_', '1', '0'] =
      some { card := 2, kind := .AO, number := 2, value := 10 } ∧
    parseStimulus ['C', '2', '_', 'A', 'O', '_', '2', '_', '1', '0'] = none ∧
    parseStimulus ['C', '2', '_', 'A', 'O', '2', '_', '-', '5'] =
      some { card := 2, kind := .AO, number := 2, value := -5 } ∧
    parseStimulus ['C', '0', '2', '_', 'D', 'O', '0', '5', '_', '1'] =
      some { card := 2, kind := .DO, number := 5, value := 1 } ∧
    parseStimulus ['C', '2', '_', 'A', 'O', '2'] = none ∧
    parseStimulus ['C', '2', '_', 'A', 'O', '2', '_', '1', '.', '5'] = none := by decide

/-- X1, X3, X4: logic expectations. -/
theorem test_expectations :
    parseLogicExpected ['C', '1', '_', 'D', 'I', '3', '_', '1'] = some { card := 1, number := 3, bit := true } ∧
    parseLogicExpected ['C', '1', '_', 'D', 'I', '3', '_', '2'] = none ∧
    parseLogicExpected ['C', '1', '_', 'D', 'O', '3', '_', '1'] = none := by decide


/-! ## Witnesses: for each statement with hypotheses, a state and operands that meet them all -/

/-- Card 1's channel in `tState`. -/
def tCh1 : Channel := Channel.fresh 1 { enabled := true, txEndpoint := 1, rxEndpoint := 2 }

/-- Card 1's channel in another run state. -/
def tIn (r : RunState) : State := tState.setChan 1 { tCh1 with run := r }

/-- The engine at a position. -/
def tAt (s : State) (p : SeqPos) : State := (s.setBusy true).setPos p

theorem witness_DecodeOfEncode : (Instr.sao 7 127 (-32768)).wf = true ∧ (Instr.sao 0 0 32767).wf = true ∧
    (Instr.smd 7 127 255).wf = true ∧ (Instr.rft 127 127).wf = true ∧ (Instr.clrbits 0xFFFF#16).wf = true := by decide

theorem witness_UnassignedAndEventWordsRefused :
    (withInput (.command 0#32) tState).env.agenda = .command 0#32 :: [] ∧ ¬ assignedOpcode (Word.op 0#32) ∧
    (withInput (.command 0xFC000000#32) tState).env.agenda = .command 0xFC000000#32 :: [] ∧
    ¬ assignedOpcode (Word.op 0xFC000000#32) ∧ eventOpcode (Word.op 0x55000000#32) ∧
    eventOpcode (Word.op 0x5D000000#32) := by
  refine ⟨rfl, ?_, rfl, ?_, ?_, ?_⟩ <;> simp [assignedOpcode, eventOpcode, Word.op]

theorem witness_StepRunsTheDecodedInstruction :
    decode 0xBC000000#32 = .ok .close ∧ (withInput (.command 0xBC000000#32) tState).env.agenda = [.command 0xBC000000#32] ∧
    Instr.close.isEvent = false ∧
    decode 0x55000000#32 = .ok (.tick 2) ∧ (withInput (.event 0x55000000#32) tRun).env.agenda = [.event 0x55000000#32] ∧
    (Instr.tick 2).isEvent = true := by
  refine ⟨by decide, rfl, rfl, by decide, rfl, rfl⟩

/-- Meets the hypotheses of SetDigitalAndTtlOutput, SetMatrixDimensions, SetAnalogOutput,
OutputGettersReadTheRegisters, EncodeReturnsTheSendImage, SetDigitalOutputsList and StartStopAndLive's first: the operands range freely between the bounds named in each. -/
theorem witness_card : tState.chan ((1 : Nat) : Int) = some tCh1 ∧ tState.chan (1 : Int) = some tCh1 ∧
    tCh1.sf.ao[7]? = some 0 ∧ (∀ n ∈ [(1 : Int), 32], 1 ≤ n ∧ n ≤ 32) ∧
    [(5 : Int), 33] = [5] ++ 33 :: [] ∧ (∀ m ∈ [(5 : Int)], 1 ≤ m ∧ m ≤ 32) ∧ (32 : Int) < 33 ∧ (0 : Int) < 1 := by
  decide +kernel

/-- The boundary operands of the setters and getters. -/
theorem witness_setter_bounds : 1 ≤ 1 ∧ 1 ≤ 32 ∧ 32 ≤ 32 ∧ 16 ≤ 16 ∧ 8 ≤ 8 ∧ 0 ≤ 7 ∧ 7 ≤ 7 ∧
    (-13500 : Int) ≤ -13500 ∧ (13500 : Int) ≤ 13500 := by decide

theorem witness_EncodeReturnsTheSendImage :
    sendImage 0xAA#8 0x55#8 { SendRegs.reset with rows := 8 } = sendImage 0xAA#8 0x55#8 { SendRegs.reset with rows := 8 } :=
  rfl

theorem witness_ImageFieldsAreIndependent : 31 < 32 ∧ 15 < 16 ∧ (9 : Nat) ≠ 8 ∧ (8 : Nat) ≠ 9 ∧
    (28 : Nat) ≠ 12 + 2 * 7 ∧ (28 : Nat) ≠ 13 + 2 * 7 ∧ 1 ≤ 64 ∧ 64 ≤ 64 := by decide

/-- Two buffers that differ in DI1 only. -/
theorem witness_ImageFieldsAreIndependent_inputs (o b : Nat) (h : (o, b) ≠ (2 + (1 - 1) / 8, (1 - 1) % 8)) :
    (rxByte tBuf o).getLsbD b = (rxByte (tBuf.set 2 0x10) o).getLsbD b := by
  by_cases ho : o = 2
  · subst ho
    have hb : b ≠ 0 := fun e => h (by simp [e])
    rw [show rxByte tBuf 2 = 0x11 by decide +kernel, show rxByte (tBuf.set 2 0x10) 2 = 0x10 by decide +kernel]
    by_cases h8 : b < 8
    · interval_cases b <;> first | omega | rfl
    · rw [BitVec.getLsbD_of_ge _ _ (Nat.le_of_not_lt h8), BitVec.getLsbD_of_ge _ _ (Nat.le_of_not_lt h8)]
  · simp [rxByte, Ne.symm ho]

/-- InputGettersReadTheFrame: DI1 and DI64, AI0 and AI15, the TTL status. -/
theorem witness_InputGettersReadTheFrame : tRun.chan ((2 : Nat) : Int) = some tCh2 ∧ tCh2.rf = some tBuf ∧
    tBuf[2 + (1 - 1) / 8]? = some 0x11 ∧ tBuf[2 + (64 - 1) / 8]? = some 0x80 ∧
    tBuf[16 + 2 * 0]? = some 0x68 ∧ tBuf[17 + 2 * 0]? = some 0x2F ∧ (0x2F68#16).toNat = (0x68#8).toNat + 256 * (0x2F#8).toNat ∧
    tBuf[16 + 2 * 15]? = some 0xFF ∧ tBuf[17 + 2 * 15]? = some 0x7F ∧
    (0x7FFF#16).toNat = (0xFF#8).toNat + 256 * (0x7F#8).toNat ∧
    tBuf[10]? = some 0x34 ∧ tBuf[11]? = some 0x12 := by decide +kernel

/-- ParseStoresOrRefuses, ReceiveEvent: a payload of 64 bytes, and one of 63. -/
theorem witness_ParseStoresOrRefuses : tRun.chan ((2 : Nat) : Int) = some tCh2 ∧ tCh2.run = .running ∧
    tRun.env.rxWire[2 - 1]? = some (tFrame :: [tFrame.take 63]) ∧ tFrame.length = 64 ∧
    (after (.parse 2) tRun).env.rxWire[2 - 1]? = some (tFrame.take 63 :: []) ∧ (tFrame.take 63).length ≠ 64 := by
  decide +kernel

theorem witness_DecodeFrameDeterminesTheBuffer : tCh2.rf = some tBuf ∧ rxHeader tBuf = rxHeader tBuf ∧
    decodeFrame tBuf = decodeFrame tBuf := ⟨by decide +kernel, rfl, rfl⟩

/-- OutOfRangeOperandsRefused, FirstFailingCheckDecides: card 1 has a channel and no frame yet; every clause at the
first illegal value. -/
theorem witness_OutOfRangeOperandsRefused : tState.chan ((1 : Nat) : Int) = some tCh1 ∧ tCh1.rf = none ∧
    (32 < 33 ∧ 16 < 17 ∧ 8 < 9 ∧ 7 < 8 ∧ 64 < 65 ∧ 15 < 16) ∧ ((-13501 : Int) < -13500 ∧ (13500 : Int) < 13501) := by
  decide +kernel

/-- Card 3 is not configured; 0 and 8 are no card. -/
theorem witness_UnknownCardIsAbsent : (Instr.sdo 3 5 true).fleetCard = some 3 ∧ (Instr.live 3).fleetCard = some 3 ∧
    tState.chan ((3 : Nat) : Int) = none ∧ ((0 : Int) < 1 ∧ (7 : Int) < 8) := by decide +kernel

/-- A response of each kind the statement names. -/
theorem witness_ErrorsWriteNothing :
    (after (.sdo 3 5 true) tState).responses = .absent :: tState.responses ∧
    (after .sct (after .runseq tState)).responses = .refused :: (after .runseq tState).responses ∧
    (after (.sdo 1 33 true) tState).responses = .error { cls := .rangeError, info := .operand 33 } :: tState.responses ∧
    (after (.parse 2) (after (.parse 2) tRun)).responses =
      .error { cls := .formatError, info := .length 63 } :: (after (.parse 2) tRun).responses := by decide +kernel

theorem witness_ErrorsWriteNothing_next : exec (.sdo 3 5 true) tState = .next (after (.sdo 3 5 true) tState) ∧
    exec (.parse 2) (after (.parse 2) tRun) = .next (after (.parse 2) (after (.parse 2) tRun)) := ⟨rfl, rfl⟩

theorem witness_DecodeVoltLaws : (-32768 : Int) < 32767 ∧ decodeVolt 5 = decodeVolt 5 := by decide +kernel

/-- The ends of the domain, the saturation, a tie-free value that is not clamped. -/
theorem witness_VoltageConversionLaws : (-27 / 2 : Volts) ≤ -27 / 2 ∧ (27 / 2 : Volts) ≤ 27 / 2 ∧ (0 : Volts) < 1 ∧
    encodeVolt .draw true 5 = roundRat .draw true (rawUnits 5) ∧ isTie (rawUnits 5) = false ∧
    encodeVolt .draw false (-5) = roundRat .draw false (rawUnits (-5)) := by decide +kernel

/-- A channel in each run state, and each answer to a bind. -/
theorem witness_StartStopAndLive : (tIn .running).chan ((1 : Nat) : Int) = some { tCh1 with run := .running } ∧
    (tIn .stopped).chan ((1 : Nat) : Int) = some { tCh1 with run := .stopped } ∧
    (tIn .failed).chan ((1 : Nat) : Int) = some { tCh1 with run := .failed } ∧
    tState.chan ((1 : Nat) : Int) = some tCh1 ∧ tCh1.run = .created ∧ tState.env.binds = true :: List.replicate 6 true ∧
    (tState.setEnv { tState.env with binds := [false] }).env.binds = false :: [] := by decide +kernel

theorem witness_StartAllAndStopAll_turn :
    (withInput (.caller 0) (after .startall tState)).env.agenda = .caller 0 :: [] ∧
    (withInput (.caller 0) (after .startall tState)).fleetOps[0]? =
      some { kind := .startAll, next := 1, started := [] } ∧ tState.fleetOps[0]? = none ∧
    ((withInput (.command (encode .stopall)) (tState.setEnv { tState.env with
      agenda := List.replicate 7 (.caller tState.fleetOps.length) })).env.agenda =
        .command (encode .stopall) :: (List.replicate 7 (.caller tState.fleetOps.length) ++ [])) := by decide +kernel

theorem witness_StartAllAndStopAll : tState.chan ((2 : Nat) : Int) = some { tCh1 with id := 2 } ∧
    tState.chan (3 : Int) = none ∧ 7 ≤ tState.env.binds.length ∧
    (∀ c ∈ [1, 2, 3, 4, 5, 6, 7], ((tState.chan ((c : Nat) : Int)).map Channel.run).getD .created = .created) := by
  decide +kernel

/-- A mixed fleet: card 1 Created, card 2 Running; a bind that fails is logged (R171, R188). -/
theorem test_startall_mixed_log :
    ((tState.setChan 2 { tCh1 with id := 2, run := .running }).setEnv
      { tState.env with binds := List.replicate 7 false }).env.binds.length = 7 ∧
    (whole .startall ((tState.setChan 2 { tCh1 with id := 2, run := .running }).setEnv
      { tState.env with binds := List.replicate 7 false })).log = [.bindFailure 1] := by decide +kernel

/-- The first tick, and one exactly a period after it. -/
theorem witness_SendTick : tRun.chan ((2 : Nat) : Int) = some tCh2 ∧ tCh2.run = .running ∧
    tCh2.lastTick = none ∧ tRun.env.sends = true :: [false] ∧ (after (.tick 2) tRun).env.sends = false :: [] ∧
    ((after (.tick 2) tRun).chan ((2 : Nat) : Int)).map (fun ch => (ch.lastTick, ch.startedAt)) =
      some (some 11, some 0) ∧
    (11 : Time) + tRun.cfg.sendPeriod ≤ (later (221 / 20) (after (.tick 2) tRun)).env.now ∧
    tickSlot tRun.cfg 0 11 < tickSlot tRun.cfg 0 (221 / 20) := by decide +kernel

/-- The last clause: 0.04 s after a tick; and in the same scheduled instant. -/
theorem witness_EventsThatAreNotEnabled_cadence :
    ((after (.tick 2) tRun).chan ((2 : Nat) : Int)).map (fun ch => (ch.lastTick, ch.startedAt)) =
      some (some 11, some 0) ∧
    (later (1104 / 100) (after (.tick 2) tRun)).env.now < 11 + tRun.cfg.sendPeriod ∧
    tickSlot tRun.cfg 0 (1104 / 100) ≤ tickSlot tRun.cfg 0 11 := by decide +kernel

theorem witness_EventsThatAreNotEnabled : tState.chan ((3 : Nat) : Int) = none ∧
    (tRun.setChan 2 { tCh2 with run := .stopped }).chan ((2 : Nat) : Int) = some { tCh2 with run := .stopped } ∧
    (tRun.setChan 2 { tCh2 with run := .stopped }).env.rxWire[2 - 1]? = some (tFrame :: [tFrame.take 63]) := by
  decide +kernel

/-- The first and the last pin, and both sides of the range. -/
theorem witness_LookupAndIllegalPins : tState.busy = false ∧ tableEntry tState.cfg 1 .A = some 0 ∧
    tableEntry tState.cfg 50 .B = some 0 ∧ tableEntry tState.cfg 17 .A = some 0x0025#16 ∧ 50 < 51 := by decide +kernel

/-- The configuration of these tests meets the constraints. -/
theorem tCfg_valid : tCfg.valid := by
  unfold Cfg.valid
  refine ⟨by decide +kernel, by decide +kernel, ?_⟩
  norm_num [tCfg]

/-- RouteDrivesTheHighLines, ClearsDriveTheLinesLow. -/
theorem witness_RouteDrivesTheHighLines : tState.busy = false ∧ tableEntry tState.cfg 17 .A = some 0x0025#16 ∧
    (tState.facadeClosed = false ∧
      tState.env.writes.take (patternLines 0x0025#16).length = List.replicate (patternLines 0x0025#16).length true) ∧
    tState.env.writes.take 16 = List.replicate 16 true := by decide +kernel

/-- Vector R10 for ROUTE; the same failure for CLRALL and CLRBITS. -/
theorem witness_RouterStopsAtTheFailingLine :
    (tState.setEnv { tState.env with writes := [true, false] }).env.writes =
      List.replicate ([0] : List (Fin 16)).length true ++ false :: [] ∧
    tableEntry tState.cfg 5 .A = some 0x0011#16 ∧ patternLines 0x0011#16 = [0] ++ 4 :: [] ∧
    List.finRange 16 = [0] ++ 1 :: (List.finRange 16).drop 2 ∧ patternLines 0x0003#16 = [0] ++ 1 :: [] := by
  decide +kernel

/-- R2 and R3: pin 17 on both schemes; and one route made twice. -/
theorem witness_RouteDrivesTheHighLines_twice : tState.busy = false ∧ tState.cfg.linePin.toList.Nodup ∧
    tableEntry tState.cfg 17 .A = some 0x0025#16 ∧ tableEntry tState.cfg 17 .B = some 0x0A00#16 ∧
    (tState.facadeClosed = false ∧
      tState.env.writes.take ((patternLines 0x0025#16).length + (patternLines 0x0A00#16).length) =
        List.replicate ((patternLines 0x0025#16).length + (patternLines 0x0A00#16).length) true) ∧
    (tState.facadeClosed = false ∧ tState.env.writes.take (3 + 3) = List.replicate (3 + 3) true) := by decide +kernel

theorem witness_FacadeCalls : tState.pins.wf ∧ tState.facadeClosed = false ∧
    tState.env.writes = true :: List.replicate 99 true ∧ tState.env.reads = some (1 / 100) :: [some (13 / 4)] ∧
    (after .close tState).facadeClosed = true := by decide +kernel

theorem witness_EngineRequestsRefusedWhileBusy : (after .runseq tState).busy = true ∧ Instr.sct.engineSide = true ∧
    (Instr.lookup 1 .A).engineSide = true ∧ Instr.close.engineSide = true := by decide +kernel

/-- Eligible at the boundary: 0.2 is near zero, -0.2 is low. -/
theorem witness_CheckRequestsBegin : tPassed.busy = false ∧
    tPassed.subj[0]? = some { Subject.fresh tInput0 with powerResult := .pass, powerMeasured := some (1 / 5) } ∧
    absRat (1 / 5) ≤ tPassed.cfg.tol ∧ (1 / 5 : Volts) ≤ tPassed.cfg.lowThreshold := by decide +kernel

/-- Not passed; 0.21 is not near zero (K5a); 0.51 exceeds the threshold (K8); index 2 has no subject. -/
theorem witness_IneligibleChecksAreSkipped : tState.busy = false ∧ tState.subj[0]? = some (Subject.fresh tInput0) ∧
    (Subject.fresh tInput0).powerResult ≠ .pass ∧ (Subject.fresh tInput0).powerMeasured = none ∧
    tState.cfg.tol < absRat (21 / 100) ∧ tState.cfg.lowThreshold < (51 / 100 : Volts) ∧ tState.subj[2]? = none ∧
    tState.subj[127]? = none := by decide +kernel

theorem witness_StopRequestAndClose : tState.busy = false := rfl

/-- PowerTest of subject 0, requested at time 0, the settle delay over at 1/10. -/
def tPowerRun : State :=
  tState.setEnv { tState.env with
    agenda := .command (encode (.pwr 0)) :: (List.replicate 3 .worker ++ .clock (1 / 10) :: List.replicate 5 .worker) }

theorem witness_PowerTestWithoutStimulus : tPowerRun.busy = false ∧ tPowerRun.subj[0]? = some (Subject.fresh tInput0) ∧
    (Subject.fresh tInput0).input.pin = ((5 : Nat) : Int) ∧ tableEntry tPowerRun.cfg 5 .A = some 0x0011#16 ∧
    tInput0.powerInput = ['n', 'o', 'n', 'e'] ∧
    (tPowerRun.facadeClosed = false ∧ tPowerRun.env.writes.take (16 + (patternLines 0x0011#16).length + 16) =
      List.replicate (16 + (patternLines 0x0011#16).length + 16) true) ∧
    tPowerRun.env.reads = some (1 / 100) :: [some (13 / 4)] ∧ tPowerRun.env.now + tPowerRun.cfg.settle ≤ 1 / 10 ∧
    tPowerRun.env.agenda =
      .command (encode (.pwr 0)) :: (List.replicate 3 .worker ++ .clock (1 / 10) :: (List.replicate 5 .worker ++ [])) := by
  decide +kernel

/-- PullUpTest of subject 0, vector K6: 3.25 V is within the tolerance of 3.3 V. -/
def tPullUpRun : State :=
  tPassed.setEnv { tPassed.env with
    agenda := .command (encode (.pup 0)) :: .worker :: .clock (1 / 10) :: .worker :: .worker :: .clock (1 / 5) ::
      List.replicate 5 .worker }

/-- The same with the readings of K6a: 2.9 V is a mismatch, and the check is one turn shorter. -/
def tPullUpRunFail : State :=
  tPassed.setEnv { tPassed.env with
    reads := [some (1 / 100), some (29 / 10)]
    agenda := .command (encode (.pup 0)) :: .worker :: .clock (1 / 10) :: .worker :: .worker :: .clock (1 / 5) ::
      List.replicate 4 .worker }

theorem witness_PullUpTestWithG : tPullUpRun.busy = false ∧
    tPullUpRun.subj[0]? = some { Subject.fresh tInput0 with powerResult := .pass, powerMeasured := some (1 / 5) } ∧
    absRat (1 / 5) ≤ tPullUpRun.cfg.tol ∧ tableEntry tPullUpRun.cfg 5 .A = some 0x0011#16 ∧
    tInput0.pullupInput = ['G'] ∧
    (tPullUpRun.facadeClosed = false ∧ tPullUpRun.env.writes.take (16 + (patternLines 0x0011#16).length + 2 + 16) =
      List.replicate (16 + (patternLines 0x0011#16).length + 2 + 16) true) ∧
    tPullUpRun.env.reads = some (1 / 100) :: some (13 / 4) :: [] ∧
    absRat (tPullUpRun.cfg.vScale * (1 / 100)) ≤ tPullUpRun.cfg.tol ∧
    tPullUpRun.env.now + tPullUpRun.cfg.settle ≤ 1 / 10 ∧ 1 / 10 + tPullUpRun.cfg.settle ≤ 1 / 5 ∧
    tPullUpRun.env.agenda = .command (encode (.pup 0)) :: .worker :: .clock (1 / 10) :: .worker :: .worker ::
      .clock (1 / 5) :: (List.replicate (if decide (absRat (tPullUpRun.cfg.vScale * (13 / 4) - tInput0.pullupExpected) ≤
        tPullUpRun.cfg.tol) then 5 else 4) .worker ++ []) ∧
    tPullUpRunFail.env.agenda = .command (encode (.pup 0)) :: .worker :: .clock (1 / 10) :: .worker :: .worker ::
      .clock (1 / 5) :: (List.replicate (if decide (absRat (tPullUpRunFail.cfg.vScale * (29 / 10) -
        tInput0.pullupExpected) ≤ tPullUpRunFail.cfg.tol) then 5 else 4) .worker ++ []) := by decide +kernel

/-- LogicTest of subject 0 against DI3 of card 1, vector K8c: byte 2 of the last frame is 0x04. -/
def tLogicRun : State :=
  (tPassed.setChan 1 { tCh1 with rf := some (Vector.replicate 64 0x04) }).setEnv { tPassed.env with
    agenda := .command (encode (.lgc 0)) :: (List.replicate 5 .worker ++ .clock (1 / 10) :: List.replicate 4 .worker) }

theorem witness_LogicTestReadsTheInput : tLogicRun.busy = false ∧
    tLogicRun.subj[0]? = some { Subject.fresh tInput0 with powerResult := .pass, powerMeasured := some (1 / 5) } ∧
    (1 / 5 : Volts) ≤ tLogicRun.cfg.lowThreshold ∧ tInput0.logicPinInput ≠ [] ∧
    tLogicRun.subj.find? (fun x => decide (x.input.pinId = tInput0.logicPinInput)) =
      some { Subject.fresh tInput1 with powerResult := .pass, powerMeasured := some (-1 / 5) } ∧
    absRat (-1 / 5) ≤ tLogicRun.cfg.tol ∧ tInput0.pin = ((5 : Nat) : Int) ∧ tInput1.pin = ((12 : Nat) : Int) ∧
    tableEntry tLogicRun.cfg 5 .A = some 0x0011#16 ∧ tableEntry tLogicRun.cfg 12 .B = some 0x0300#16 ∧
    parseLogicExpected tInput0.logicExpected = some { card := 1, number := 3, bit := true } ∧
    tLogicRun.chan ((1 : Nat) : Int) = some { tCh1 with rf := some (Vector.replicate 64 0x04) } ∧
    (Vector.replicate 64 (0x04 : Byte))[2 + (3 - 1) / 8]? = some 0x04 ∧
    (tLogicRun.facadeClosed = false ∧ tLogicRun.env.writes.take (16 + 2 + 2 + 4 + 4 + 16) =
      List.replicate (16 + 2 + 2 + 4 + 4 + 16) true) ∧
    (patternLines 0x0011#16).length = 2 ∧ (patternLines 0x0300#16).length = 2 ∧
    tLogicRun.env.now + tLogicRun.cfg.settle ≤ 1 / 10 ∧
    tLogicRun.env.agenda = .command (encode (.lgc 0)) ::
      (List.replicate 5 .worker ++ .clock (1 / 10) :: (List.replicate 4 .worker ++ [])) := by decide +kernel

/-- RelayFuseTest of pairs 1 and 2. -/
def tRelayRun : State :=
  tState.setEnv { tState.env with
    agenda := .command (encode (.rft 1 2)) :: (List.replicate 9 .worker ++ .clock (1 / 10) :: List.replicate 4 .worker) }

theorem witness_RelayFuseTestCompares : tRelayRun.busy = false ∧
    (tRelayRun.facadeClosed = false ∧ tRelayRun.env.writes.take (5 + 5 + 16) = List.replicate (5 + 5 + 16) true) ∧
    tRelayRun.env.reads = some (1 / 100) :: some (13 / 4) :: [] ∧ tRelayRun.env.now + tRelayRun.cfg.settle ≤ 1 / 10 ∧
    tRelayRun.env.agenda = .command (encode (.rft 1 2)) ::
      (List.replicate 9 .worker ++ .clock (1 / 10) :: (List.replicate 4 .worker ++ [])) := by decide +kernel

/-- The sweep in the second half of S4, at an inner pin. -/
def tSweep (q : Nat) : State :=
  (tAt tState { phase := .sweep, idx := 5, step := 4 }).setWork
    { Work.idle with sub := 1, wake := some 0, inner := q, vexp := 16 / 5 }

/-- The outer pin itself, another pin, the last pin; 0.01 V is wrong at the outer pin and right at the others. -/
theorem witness_SweepRecordsWrongPins : (tSweep 5).busy = true ∧ (tSweep 5).pos.phase = .sweep ∧
    (tSweep 5).pos.step = 4 ∧ (tSweep 5).work.sub = 1 ∧ (tSweep 5).work.wake = some 0 ∧ (0 : Time) ≤ (tSweep 5).env.now ∧
    (tSweep 5).facadeClosed = false ∧ (tSweep 5).env.reads = some (1 / 100) :: [some (13 / 4)] ∧
    (tSweep 5).cfg.tol < absRat ((tSweep 5).cfg.vScale * (1 / 100) - (tSweep 5).work.vexp) ∧
    ¬ ((tSweep 50).cfg.tol < absRat ((tSweep 50).cfg.vScale * (1 / 100))) ∧ (tSweep 5).work.inner < 50 ∧
    50 ≤ (tSweep 50).work.inner := by decide +kernel

theorem witness_CleanupLeavesNoLineHigh :
    (tAt tState { phase := .power, idx := 0, step := 15 }).busy = true ∧
    (tAt tState { phase := .power, idx := 0, step := 15 }).work.wake = none ∧
    (tAt tState { phase := .power, idx := 0, step := 15 }).subj[0]? = some (Subject.fresh tInput0) ∧
    (tAt tState { phase := .pullUp, idx := 1, step := 12 }).subj[1]? = some (Subject.fresh tInput1) ∧
    ((tAt tState { phase := .logic, idx := 0, step := 8 }).setWork { Work.idle with relays := 2 }).work.relays = 2 ∧
    (tAt tState { phase := .sweep, idx := 50, step := 5 }).pos.step = 5 ∧
    (tAt tState { phase := .relayFuse, idx := 0, step := 6 }).pos.step = 6 := by decide +kernel

/-- `C1_DO5_2`, `C9_AO2_10`, `C1_DO0_1`, `C2_AO2_14`, `C1_DO32_1`, `C1_AO7_13` (vectors S11 to S15). -/
theorem witness_StimulusIsAppliedOrFails : tState.chan ((9 : Nat) : Int) = none ∧
    tState.chan ((1 : Nat) : Int) = some tCh1 ∧ ((2 : Int) ≠ 0 ∧ (2 : Int) ≠ 1) ∧ ((0 : Nat) = 0 ∨ 32 < 0) ∧ (13 : Int) < 14 ∧
    7 < 8 ∧ ((-14 : Int) < -13) ∧ (1 ≤ 32 ∧ 32 ≤ 32) ∧ (7 ≤ 7 ∧ (-13 : Int) ≤ 13 ∧ (13 : Int) ≤ 13) := by decide +kernel

/-- Suspended, at the deadline, and with a fresh frame: card 2 with its frame of time 10, the setter step at 10 or
at 9, the deadline at 12 or at 11. -/
def tVerify (t0 deadline : Time) : State := tRun.setWork { Work.idle with t0 := t0, deadline := deadline }

/-! Turns of the worker, with the directive `C2_DO5_0` for card 2, whose last frame came at 10, at time 11. -/

def tDirective : Stimulus := { card := 2, kind := .DO, number := 5, value := 0 }

def tInput2 : SubjectInput :=
  { tInput0 with
    powerInput := ['C', '2', '_', 'D', 'O', '5', '_', '0']
    pullupInput := ['C', '2', '_', 'D', 'O', '5', '_', '0'] }

def tSubject : Subject := Subject.fresh tInput2

def tTurn (p : SeqPos) (w : Work) : State :=
  ((tAt tRun p).setSubj [tSubject, Subject.fresh tInput1]).setWork w

theorem tTurn_ready (p : SeqPos) (w : Work) (h : w.wake = none) : (tTurn p w).ready :=
  ⟨rfl, fun t ht => by rw [show (tTurn p w).work = w from rfl, h] at ht; cases ht⟩

/-- P9 and P12 with their three answers of a verify step; the stimulus applied and not applied; the pin read and not
read; what is near zero and what is not. -/
theorem witness_PowerTestStimulusBranch :
    (tTurn { phase := .power, idx := 0, step := 5 } .idle).subj[0]? = some tSubject ∧
    parseStimulus tSubject.input.powerInput = some tDirective ∧
    applyStimulus tDirective tDirective.value tRun = (none, (applyStimulus tDirective tDirective.value tRun).2) ∧
    applyStimulus { tDirective with card := 9 } 0 tRun = (some .cardAbsent, tRun) ∧
    verifyPoll tDirective tDirective.value (tVerify 10 12) = none ∧
    verifyPoll tDirective 0 (tVerify 9 11) = some true ∧ verifyPoll tDirective 0 (tVerify 10 11) = some false ∧
    (analogRead 200 tRun).1 = some (1 / 100) ∧ (analogRead 200 (tRun.setClosed true)).1 = none ∧
    absRat (1 / 5) ≤ tRun.cfg.tol ∧ tRun.cfg.tol < absRat (21 / 100) ∧
    (tTurn { phase := .power, idx := 0, step := 9 } { Work.idle with sub := 2, spec := some tDirective }).work.spec =
      some tDirective ∧
    (tTurn { phase := .power, idx := 0, step := 16 } .idle).work.inSeq = false := by decide +kernel

/-- The same of PullUpTest; the directive `G`, one of the wrong kind, and one that does not parse. -/
theorem witness_PullUpTestDirectiveBranch : parseStimulus tSubject.input.pullupInput = some tDirective ∧
    tSubject.input.pullupInput ≠ ['G'] ∧ tDirective.kind = .DO ∧
    parseStimulus ['C', '2', '_', 'A', 'O', '2', '_', '5'] = some { card := 2, kind := .AO, number := 2, value := 5 } ∧
    parseStimulus ['g'] = none ∧ (digitalWrite 201 false tRun).1 = true ∧
    (digitalWrite 201 false (tRun.setClosed true)).1 = false ∧
    (∀ n ∈ [1, 2, 3], (tTurn { phase := .pullUp, idx := 0, step := 11 } { Work.idle with sub := n }).work.sub = n) ∧
    (applyStimulus tDirective 0 (tTurn { phase := .pullUp, idx := 0, step := 11 } { Work.idle with sub := 1 })).1 =
      none ∧
    (applyStimulus { tDirective with card := 9 } 0
      (tTurn { phase := .pullUp, idx := 0, step := 11 } { Work.idle with sub := 1 })).1 = some .cardAbsent ∧
    (tTurn { phase := .pullUp, idx := 0, step := 13 } .idle).work.inSeq = false := by
  decide +kernel

/-- Between P9's getter and its revert a caller writes the card's output (R16, R79): the revert overwrites it. Both
are operations of the one card, each in a turn of its own. -/
theorem test_revert_is_a_turn_of_its_own :
    let s := turn (tTurn { phase := .power, idx := 0, step := 9 }
      { Work.idle with sub := 1, t0 := 10, deadline := 11, spec := some { tDirective with value := 1 } })
    s.pos.step = 9 ∧ s.work.sub = 2 ∧ answered (.gdo 2 5) (after (.sdo 2 5 true) s) = some (.okValue (.bool true)) ∧
      answered (.gdo 2 5) (turn (after (.sdo 2 5 true) s)) = some (.okValue (.bool false)) ∧
      (turn (after (.sdo 2 5 true) s)).work.reason = .verifyFailed := by decide +kernel

/-- A subject whose three directives do not parse. -/
def tMalformed : Subject :=
  Subject.fresh { tInput0 with powerInput := ['5', 'V'], pullupInput := ['g'], logicExpected := ['C', '1'] }

/-- R270: P5, U7 and G6 log a string that does not match its grammar; U7 does not log an AO directive. -/
theorem test_unparsed_directives_are_logged :
    (powerP5 tMalformed (tAt tRun { phase := .power, idx := 0, step := 5 })).log = [.unparsedDirective .power 0] ∧
    (pullUpU7 tMalformed 1 (tAt tRun { phase := .pullUp, idx := 0, step := 7 })).log =
      [.unparsedDirective .pullUp 0] ∧
    (logicG6 tMalformed (tAt tRun { phase := .logic, idx := 1, step := 6 })).log = [.unparsedDirective .logic 1] ∧
    (pullUpU7 (Subject.fresh { tInput0 with pullupInput := ['C', '2', '_', 'A', 'O', '2', '_', '5'] }) 1
      (tAt tRun { phase := .pullUp, idx := 0, step := 7 })).log = [] := by decide +kernel

/-- A name of no subject, of one whose PowerTest did not pass, of one that passed; an expectation that does not parse;
a card without a channel, one without a frame, and an input number out of range. -/
theorem witness_LogicTestFailingExits :
    (∀ x ∈ tState.subj, x.input.pinId ≠ ['Z']) ∧ tInput0.logicPinInput ≠ [] ∧
    tState.subj.find? (fun x => decide (x.input.pinId = tInput0.logicPinInput)) = some (Subject.fresh tInput1) ∧
    (Subject.fresh tInput1).powerResult ≠ .pass ∧
    tPassed.subj.find? (fun x => decide (x.input.pinId = tInput0.logicPinInput)) =
      some { Subject.fresh tInput1 with powerResult := .pass, powerMeasured := some (-1 / 5) } ∧
    parseLogicExpected ['C', '1', '_', 'D', 'O', '3', '_', '1'] = none ∧
    parseLogicExpected tInput0.logicExpected = some { card := 1, number := 3, bit := true } ∧
    tState.chan ((1 : Nat) : Int) = some tCh1 ∧ tCh1.rf = none ∧ tState.chan ((9 : Nat) : Int) = none ∧
    parseLogicExpected ['C', '1', '_', 'D', 'I', '6', '5', '_', '1'] =
      some { card := 1, number := 65, bit := true } := by decide +kernel

/-- The facade closed: every call fails; the first reading of F4 good and the second not; a pin that is none. -/
theorem witness_ErrorsInsideACheckBecomeReasons :
    (clearAllLines (tState.setClosed true)).1 = some (lineError 0) ∧
    (routePin 5 .A (tState.setClosed true)).1 = some (lineError 0) ∧
    (routeClean 5 .A (tState.setClosed true)).1 = some (lineError 0) ∧ (clearAllLines tState).1 = none ∧
    (routePin 12 .B (tState.setClosed true)).1 = some (lineError 8) ∧
    (digitalWrite 201 true (tState.setClosed true)).1 = false ∧ (drivePins true [202, 203] tState).1 = true ∧
    (drivePins true [212, 213] (tState.setClosed true)).1 = false ∧
    (drivePins true [212, 213] ((drivePins true [202, 203]
      (tState.setEnv { tState.env with writes := [true, true, false] })).2)).1 = false ∧
    (analogRead 200 (tState.setEnv { tState.env with reads := [some 1, none] })).1 = some 1 ∧
    (analogRead 210 (analogRead 200 (tState.setEnv { tState.env with reads := [some 1, none] })).2).1 = none ∧
    (tTurn { phase := .relayFuse, idx := 0, step := 7 } { Work.idle with both := some (1, 2) }).work.inSeq = false ∧
    ¬ (1 ≤ (51 : Int) ∧ (51 : Int) ≤ 50) := by decide +kernel

/-- The sweep at outer pin 5, inner pin 12; the facade open and closed; the pull-up write alone failing. -/
theorem witness_ShortCircuitTestSteps :
    (tTurn { phase := .sweep, idx := 5, step := 2 } .idle).stopRequested = false ∧
    tableEntry tRun.cfg 5 .A = some 0x0011#16 ∧ tableEntry tRun.cfg 12 .B = some 0x0300#16 ∧
    (tRun.facadeClosed = false ∧ tRun.env.writes.take (16 + 2 + 2) = List.replicate (16 + 2 + 2) true) ∧
    (patternLines 0x0011#16).length = 2 ∧ (patternLines 0x0300#16).length = 2 ∧
    (routeClean 5 .A (tRun.setClosed true)).1 = some (lineError 0) ∧ (routeClean 5 .A tRun).1 = none ∧
    (digitalWrite 201 true ((routeClean 5 .A
      (tRun.setEnv { tRun.env with writes := List.replicate 18 true ++ [false] })).2)).1 = false ∧
    (routePin 12 .B ((routeClean 5 .A
      (tRun.setEnv { tRun.env with writes := List.replicate 18 true ++ [false] })).2)).1 = some (lineError 8) ∧
    (analogRead 200 tRun).1 = some (1 / 100) ∧ (analogRead 200 (tRun.setClosed true)).1 = none ∧
    (tTurn { phase := .sweep, idx := 5, step := 4 } { Work.idle with sub := 1, inner := 12 }).work.sub ≠ 0 := by
  decide +kernel

/-- The first clause: a mismatch at U5 goes to U12. -/
theorem witness_CleanupLeavesNoLineHigh_pullUp :
    (turn (tTurn { phase := .pullUp, idx := 0, step := 5 } { Work.idle with measured := some 0 })).pos.step = 12 ∧
    (tTurn { phase := .pullUp, idx := 0, step := 5 } { Work.idle with measured := some 0 }).subj[0]? =
      some tSubject := by decide +kernel

theorem tTurn_inv : Inv (tTurn { phase := .pullUp, idx := 0, step := 5 } { Work.idle with measured := some 0 }) := by
  refine ⟨tCfg_valid, by decide +kernel, ?_, ?_, ?_, fun _ _ h => absurd h (by decide +kernel),
    fun _ h => absurd h List.not_mem_nil⟩
  · intro c h1 h2
    have h : c = 1 ∨ c = 2 ∨ (c = 3 ∨ c = 4 ∨ c = 5 ∨ c = 6 ∨ c = 7) := by omega
    rcases h with rfl | rfl | h
    · rw [show (tTurn { phase := .pullUp, idx := 0, step := 5 } { Work.idle with measured := some 0 }).chan
        ((1 : Nat) : Int) = some tCh1 by decide +kernel]
      refine ⟨rfl, rfl, ⟨{ enabled := true, txEndpoint := 1, rxEndpoint := 2 }, by decide +kernel, rfl, rfl, rfl⟩,
        ?_, ?_, ?_, ?_, ?_, ?_, ?_, ?_, ?_⟩
      all_goals simp [tCh1, Channel.fresh]
    · rw [show (tTurn { phase := .pullUp, idx := 0, step := 5 } { Work.idle with measured := some 0 }).chan
        ((2 : Nat) : Int) = some tCh2 by decide +kernel]
      refine ⟨rfl, rfl, ⟨{ enabled := true, txEndpoint := 1, rxEndpoint := 2 }, by decide +kernel, rfl, rfl, rfl⟩,
        fun t ht => ?_, ?_, ?_, ?_, ?_, ?_, ?_, ?_, ?_⟩
      · cases ht
        decide +kernel
      all_goals simp [tCh2, Channel.fresh]
    · rcases h with rfl | rfl | rfl | rfl | rfl
      all_goals exact fun k hk => by cases hk
  · unfold EngineOk
    refine ⟨?_, ?_, ?_, ?_, ?_⟩ <;> decide +kernel
  · intro k f hf
    rw [show (tTurn { phase := .pullUp, idx := 0, step := 5 } { Work.idle with measured := some 0 }).env.txWire =
      Vector.replicate 7 [] by decide +kernel, Vector.getElem?_replicate] at hf
    split at hf <;> simp at hf

/-- The end of the sweep: after pin 50 comes S7 (R46, R253). -/
theorem test_sweep_end : (turn (tTurn { phase := .sweep, idx := 50, step := 5 } .idle)).pos =
    { phase := .sweep, idx := 50, step := 7 } := by decide +kernel

/-- Absent; suspended; expired; fresh, at the deadline itself. -/
theorem witness_VerifyStepWaitsForAFreshFrame : (tVerify 10 12).chan ((3 : Nat) : Int) = none ∧
    (tVerify 10 12).chan ((2 : Nat) : Int) = some tCh2 ∧ tCh2.rxTimes = [10] ∧
    (10 : Time) ≤ (tVerify 10 12).work.t0 ∧ (tVerify 10 12).env.now < (tVerify 10 12).work.deadline ∧
    (tVerify 10 11).work.deadline ≤ (tVerify 10 11).env.now ∧ (tVerify 8 9).work.deadline < 10 ∧
    (tVerify 9 10).work.t0 < 10 ∧ (10 : Time) ≤ (tVerify 9 10).work.deadline ∧
    (tVerify 9 10).cfg.readBack = .localGetter ∧ tCh2.sf.ao[7]? = some 0 ∧ tCh2.rf.isSome = true := by decide +kernel

/-- Both sides of the grammars: `C02_AO7_-13`, `C1_DI3_1`; a string without a match. -/
theorem witness_DirectiveGrammars : parseStimulus ['C', '0', '2', '_', 'A', 'O', '7', '_', '-', '1', '3'] =
      some { card := 2, kind := .AO, number := 7, value := -13 } ∧
    parseLogicExpected ['C', '1', '_', 'D', 'I', '3', '_', '1'] = some { card := 1, number := 3, bit := true } ∧
    namesNoStimulus ['5', 'V'] ∧ isGText ['G'] = true ∧
    (isDecimal ['0', '2'] 2 ∧ isDecimal ['7'] 7 ∧ isDecimal ['1', '3'] 13) := by
  refine ⟨by decide, by decide, .inr (.inr (by decide)), by decide, ⟨by simp, ?_, rfl⟩, ⟨by simp, ?_, rfl⟩, by simp, ?_, rfl⟩ <;>
    simp [isDigit]

/-- A check of pin 5 suspended at P3, its 18 writes made at time 0, the worker next in the agenda. -/
def tMeasuring : State :=
  withInput .worker (turn (turn (turn (after (.pwr 0) tState))))

theorem witness_step : (∃ t, step tMeasuring = .next t) ∧ (∃ t, step (withInput .worker tState) = .next t) :=
  ⟨⟨_, rfl⟩, ⟨_, rfl⟩⟩

theorem tMeasuring_engine : EngineOk tMeasuring := by
  unfold EngineOk
  refine ⟨?_, ?_, ?_, ?_, ?_⟩ <;> decide +kernel

theorem tMeasuring_channel (c : Nat) (ch : Channel) (hc : c = 1 ∨ c = 2) (h : ch = { tCh1 with id := c }) :
    ChannelOk tMeasuring.cfg tMeasuring.env.now c ch := by
  subst h
  refine ⟨rfl, rfl, ⟨{ enabled := true, txEndpoint := 1, rxEndpoint := 2 }, ?_, rfl, rfl, rfl⟩, ?_, ?_, ?_, ?_, ?_, ?_,
    ?_, ?_, ?_⟩
  · rcases hc with rfl | rfl <;> decide +kernel
  all_goals simp [tCh1, Channel.fresh]

theorem witness_InvariantIsKept : Inv tMeasuring := by
  refine ⟨tCfg_valid, by decide +kernel, ?_, tMeasuring_engine, ?_, fun _ h => absurd h (by decide +kernel),
    fun _ h => absurd h List.not_mem_nil⟩
  · intro c h1 h2
    have h : c = 1 ∨ c = 2 ∨ c = 3 ∨ c = 4 ∨ c = 5 ∨ c = 6 ∨ c = 7 := by omega
    rcases h with rfl | rfl | rfl | rfl | rfl | rfl | rfl
    · rw [show tMeasuring.chan ((1 : Nat) : Int) = some { tCh1 with id := 1 } by decide +kernel]
      exact tMeasuring_channel 1 _ (.inl rfl) rfl
    · rw [show tMeasuring.chan ((2 : Nat) : Int) = some { tCh1 with id := 2 } by decide +kernel]
      exact tMeasuring_channel 2 _ (.inr rfl) rfl
    · rw [show tMeasuring.chan ((3 : Nat) : Int) = none by decide +kernel]
      intro k hk; rw [show tMeasuring.cfg.card[3 - 1]? = some none by decide +kernel] at hk; cases hk
    · rw [show tMeasuring.chan ((4 : Nat) : Int) = none by decide +kernel]
      intro k hk; rw [show tMeasuring.cfg.card[4 - 1]? = some none by decide +kernel] at hk; cases hk
    · rw [show tMeasuring.chan ((5 : Nat) : Int) = none by decide +kernel]
      intro k hk; rw [show tMeasuring.cfg.card[5 - 1]? = some none by decide +kernel] at hk; cases hk
    · rw [show tMeasuring.chan ((6 : Nat) : Int) = none by decide +kernel]
      intro k hk; rw [show tMeasuring.cfg.card[6 - 1]? = some none by decide +kernel] at hk; cases hk
    · rw [show tMeasuring.chan ((7 : Nat) : Int) = none by decide +kernel]
      intro k hk; rw [show tMeasuring.cfg.card[7 - 1]? = some none by decide +kernel] at hk; cases hk
  · intro k f hf
    rw [show tMeasuring.env.txWire = Vector.replicate 7 [] by decide +kernel] at hf
    rw [Vector.getElem?_replicate] at hf
    split at hf <;> simp at hf

theorem settledTrace_of_writes (settle : Time) (l : List FacadeCall) (h : ∀ c ∈ l, c.isWrite = true) :
    settledTrace settle l := by
  induction l with
  | nil => trivial
  | cons c l ih =>
    have hc := h c (by simp)
    have hl := ih fun d hd => h d (by simp [hd])
    cases c with
    | dw _ _ _ _ => exact hl
    | ar _ _ _ => simp [FacadeCall.isWrite] at hc
    | close _ => exact hl

theorem witness_SettleBarrierIsKept : SettledInv tMeasuring ∧ tMeasuring.busy = true ∧
    measuring tMeasuring.pos tMeasuring.work.sub = true := by
  refine ⟨⟨tMeasuring_engine, settledTrace_of_writes _ _ (by decide +kernel), by decide +kernel,
    fun _ h => absurd h (by decide +kernel), ?_⟩, by decide +kernel, by decide +kernel⟩
  intro _ _
  refine ⟨1 / 10, by decide +kernel, ?_, fun h => absurd h (by decide +kernel)⟩
  unfold settledBy
  decide +kernel

/-- PowerTest at P11, the setter step taken at 10, the settle delay after the verification over at 11. -/
def tStimulated : State :=
  (tAt tRun { phase := .power, idx := 0, step := 11 }).setWork { Work.idle with t0 := 10, wake := some 11 }

/-- The second and third clauses. -/
theorem witness_SettleBarrierIsKept_stimulus : SettledInv tStimulated ∧ stimulated tStimulated.pos = true ∧
    (∃ c ∈ (workerStep tStimulated).facade, c ∉ tStimulated.facade) ∧
    (turn (tTurn { phase := .power, idx := 0, step := 8 } { Work.idle with spec := some tDirective })).pos.step = 9 := by
  refine ⟨⟨?_, trivial, by decide +kernel, ?_, ?_⟩, by decide, ⟨.ar 11 200 (some (1 / 100)), by decide +kernel,
    by decide +kernel⟩, by decide +kernel⟩
  · unfold EngineOk
    refine ⟨?_, ?_, ?_, ?_, ?_⟩ <;> decide +kernel
  · intro _ _; decide +kernel
  · intro _ _
    refine ⟨11, rfl, fun c hc => ?_, fun _ => by decide +kernel⟩
    cases hc

/-- The check at its cleanup, with a verdict. -/
def tDecided : State :=
  (tAt tState { phase := .power, idx := 0, step := 15 }).setWork { Work.idle with pass := true, reason := .ok }

theorem witness_VerdictsAreKept : VerdictInv tDecided ∧ tDecided.busy = true ∧ decided tDecided.pos = true ∧
    ∃ t, step (withInput .worker tDecided) = .next t := by
  refine ⟨⟨?_, ?_, ?_, ?_⟩, rfl, by decide, _, rfl⟩
  · unfold EngineOk
    refine ⟨?_, ?_, ?_, ?_, ?_⟩ <;> decide +kernel
  · intro r hr
    rw [show tDecided.responses = [] from rfl] at hr
    cases hr
  · intro _ _
    exact ⟨fun _ => rfl, fun _ => rfl⟩
  · decide +kernel

/-- FleetMapIsConstantAndNothingRestarts, SessionStateIsWrittenByTheLoops: a request taken by `step`. -/
theorem witness_FleetMapIsConstantAndNothingRestarts :
    (∃ t, step (withInput (.command 0x41000000#32) tState) = .next t) ∧
    (withInput (.command 0x41000000#32) tState).chan (3 : Int) = none ∧
    (withInput (.command 0x41000000#32) tRun).chan (2 : Int) = some tCh2 ∧
    (fetchInput (withInput (.command 0x41000000#32) tRun)).1 = .command 0x41000000#32 ∧
    decode 0x41000000#32 = .ok (.start 2) :=
  ⟨⟨_, rfl⟩, by decide +kernel, by decide +kernel, rfl, by decide⟩

theorem witness_FacadeBelongsToTheEngine : tMeasuring.busy = true ∧
    (fetchInput (withInput (.event 0x55000000#32) tMeasuring)).1 ≠ .worker ∧ (Instr.sdo 1 1 true).engineSide = false ∧
    (Instr.tick 1).engineSide = false ∧ Instr.reqstop.engineSide = false := by decide +kernel

/-- A result that is not NoResult, at a turn of the worker and at another input. -/
theorem witness_ResultsAreKept :
    (withInput .worker tPassed).subj[0]? =
      some { Subject.fresh tInput0 with powerResult := .pass, powerMeasured := some (1 / 5) } ∧
    (fetchInput (withInput .worker tPassed)).1 = .worker ∧
    (fetchInput (withInput (.clock 1) tPassed)).1 = .clock 1 ∧
    (withInput (.subjects [tInput1]) tPassed).busy = false ∧
    (withInput (.subjects [tInput1]) tPassed).env.agenda = .subjects [tInput1] :: tPassed.env.agenda := by decide +kernel

/-- Away from a stop point; at the two kinds of stop point with the request set. -/
theorem witness_StopFlagIsReadOnlyAtStopPoints : ¬ atStopPoint tMeasuring ∧
    (after .reqstop (after .runseq tState)).stopRequested = true ∧ (after .reqstop (after .runseq tState)).busy = true ∧
    (after .reqstop (after .runseq tState)).pos = { phase := .power, idx := 0, step := 0 } ∧
    (after .reqstop (after .runseq tState)).work.wake = none ∧
    (after .reqstop (after .sct tState)).pos = { phase := .sweep, idx := 1, step := 1 } ∧
    (after .reqstop (after .sct tState)).stopRequested = true ∧
    (tAt tState { phase := .sweep, idx := 2, step := 1 }).pos.idx ≠ 1 := by
  refine ⟨by unfold atStopPoint; decide +kernel, ?_⟩
  decide +kernel

/-- A check's return in a sequence. -/
theorem witness_SequenceGoesThroughItsPhases_return :
    (tTurn { phase := .power, idx := 0, step := 16 } { Work.idle with inSeq := true }).subj[0]? = some tSubject ∧
    (tTurn { phase := .power, idx := 0, step := 16 } { Work.idle with inSeq := true }).busy = true ∧
    (tTurn { phase := .power, idx := 0, step := 16 } { Work.idle with inSeq := true }).stopRequested = false := by
  decide +kernel

/-- An eligible subject, one that is not, and the end of the table. -/
theorem witness_SequenceGoesThroughItsPhases :
    (after .runseq tState).busy = true ∧ (after .runseq tState).work.wake = none ∧
    (after .runseq tState).stopRequested = false ∧
    (tAt tState { phase := .power, idx := 2, step := 0 }).subj[2]? = none ∧
    eligible tState.cfg .power (Subject.fresh tInput0) = true ∧
    eligible tState.cfg .pullUp (Subject.fresh tInput0) = false := by decide +kernel

end Sys2Proof.Tests
end

/-!
PROOFS of the family 20_memory: which bits of the send image an output owns, and which bits of a received buffer a
field reads (R75).
-/

namespace Sys2Proof.Machine

/-! ## The layout of the send image -/

/-- The byte of the send image at an offset, by the field that owns it (R61 to R65, R101); 0 past the end. -/
def imageByte (h0 h1 : Byte) (r : SendRegs) (o : Nat) : Byte :=
  if o = 0 then h0
  else if o = 1 then h1
  else if o < 6 then byteAt r.dout (o - 2)
  else if o < 8 then byteAt r.ttl (o - 6)
  else if o = 8 then BitVec.ofNat 8 r.rows
  else if o = 9 then BitVec.ofNat 8 r.cols
  else if o < 12 then 0
  else if o < 28 then byteAt (r.ao[(o - 12) / 2]?.getD 0) ((o - 12) % 2)
  else 0

/-- What ties the layout to the model: within the image the bytes are its own, past its end both sides are 0. -/
theorem sendImage_getD (h0 h1 : Byte) (r : SendRegs) (o : Nat) :
    (sendImage h0 h1 r)[o]?.getD 0 = imageByte h0 h1 r o := by
  rcases Nat.lt_or_ge o 32 with ho | ho
  · interval_cases o <;> rfl
  · have hend : (sendImage h0 h1 r)[o]? = none := List.getElem?_eq_none ho
    simp [hend, imageByte, show ¬ o < 28 by omega, show ¬ o < 12 by omega, show ¬ o < 8 by omega, show ¬ o < 6 by omega,
      show o ≠ 0 by omega, show o ≠ 1 by omega, show o ≠ 8 by omega, show o ≠ 9 by omega]

/-! ## One bit of a register is one bit of its bytes -/

theorem byteAt_getLsbD {w : Nat} (x : BitVec w) (j b : Nat) :
    (byteAt x j).getLsbD b = (decide (b < 8) && x.getLsbD (8 * j + b)) := by
  simp [byteAt]

/-- In a field that begins at offset `p`, bit `k` of the register is bit `k % 8` of byte `p + k / 8`, and no other
(R75, R103). -/
theorem byteAt_setBit_getLsbD {w : Nat} (x : BitVec w) {k : Nat} (hk : k < w) (v : Bool) {p o : Nat} (ho : p ≤ o)
    (b : Nat) :
    (byteAt (setBit x k v) (o - p)).getLsbD b =
      if (o, b) = (p + k / 8, k % 8) then v else (byteAt x (o - p)).getLsbD b := by
  rw [byteAt_getLsbD, byteAt_getLsbD, setBit_getLsbD]
  by_cases hb : b < 8
  · have hpos : (8 * (o - p) + b = k ∧ k < w) ↔ (o, b) = (p + k / 8, k % 8) := by
      simp only [Prod.mk.injEq]; omega
    simp only [hb, hpos, decide_true, Bool.true_and]
  · have hpos : (o, b) ≠ (p + k / 8, k % 8) := by
      simp only [ne_eq, Prod.mk.injEq]; omega
    simp only [hb, if_neg hpos, decide_false, Bool.false_and]

/-! ## Each output writes its own part of the image -/

section
variable (h0 h1 : Byte) (r : SendRegs)

theorem imageByte_dout {o : Nat} (hlo : 2 ≤ o) (hhi : o < 6) : imageByte h0 h1 r o = byteAt r.dout (o - 2) := by
  simp only [imageByte, if_pos hhi, if_neg (show o ≠ 0 by omega), if_neg (show o ≠ 1 by omega)]

theorem imageByte_ttl {o : Nat} (hlo : 6 ≤ o) (hhi : o < 8) : imageByte h0 h1 r o = byteAt r.ttl (o - 6) := by
  simp only [imageByte, if_pos hhi, if_neg hlo.not_gt, if_neg (show o ≠ 0 by omega), if_neg (show o ≠ 1 by omega)]

theorem imageByte_withDout_frame {o : Nat} (ho : o < 2 ∨ 6 ≤ o) (x : BitVec 32) :
    imageByte h0 h1 { r with dout := x } o = imageByte h0 h1 r o := by
  rcases ho with ho | ho
  · interval_cases o <;> rfl
  · simp only [imageByte, if_neg ho.not_gt]

theorem imageByte_withTtl_frame {o : Nat} (ho : o < 6 ∨ 8 ≤ o) (x : BitVec 16) :
    imageByte h0 h1 { r with ttl := x } o = imageByte h0 h1 r o := by
  rcases ho with ho | ho
  · simp only [imageByte, if_pos ho]
  · simp only [imageByte, if_neg ho.not_gt]

/-- A digital output is one bit of bytes 2 to 5 (R62, R75). -/
theorem imageByte_setDout {k : Nat} (hk : k < 32) (v : Bool) (o b : Nat) :
    (imageByte h0 h1 { r with dout := setBit r.dout k v } o).getLsbD b =
      if (o, b) = (2 + k / 8, k % 8) then v else (imageByte h0 h1 r o).getLsbD b := by
  by_cases ho : 2 ≤ o ∧ o < 6
  · obtain ⟨hlo, hhi⟩ := ho
    rw [imageByte_dout h0 h1 _ hlo hhi, imageByte_dout h0 h1 _ hlo hhi, byteAt_setBit_getLsbD r.dout hk v hlo]
  · rw [imageByte_withDout_frame h0 h1 r (by omega), if_neg]
    simp only [Prod.mk.injEq]; omega

/-- A TTL output is one bit of bytes 6 and 7 (R63, R75). -/
theorem imageByte_setTtl {k : Nat} (hk : k < 16) (v : Bool) (o b : Nat) :
    (imageByte h0 h1 { r with ttl := setBit r.ttl k v } o).getLsbD b =
      if (o, b) = (6 + k / 8, k % 8) then v else (imageByte h0 h1 r o).getLsbD b := by
  by_cases ho : 6 ≤ o ∧ o < 8
  · obtain ⟨hlo, hhi⟩ := ho
    rw [imageByte_ttl h0 h1 _ hlo hhi, imageByte_ttl h0 h1 _ hlo hhi, byteAt_setBit_getLsbD r.ttl hk v hlo]
  · rw [imageByte_withTtl_frame h0 h1 r (by omega), if_neg]
    simp only [Prod.mk.injEq]; omega

theorem imageByte_setRows {o : Nat} (ho : o ≠ 8) (v : Fin 9) :
    imageByte h0 h1 { r with rows := v } o = imageByte h0 h1 r o := by
  simp only [imageByte, if_neg ho]

theorem imageByte_setCols {o : Nat} (ho : o ≠ 9) (v : Fin 9) :
    imageByte h0 h1 { r with cols := v } o = imageByte h0 h1 r o := by
  simp only [imageByte, if_neg ho]

/-- An analog output is bytes `12 + 2n` and `13 + 2n` (R65, R75). -/
theorem imageByte_setAnalog {o n : Nat} (hlo : o ≠ 12 + 2 * n) (hhi : o ≠ 13 + 2 * n) (q : Raw) :
    imageByte h0 h1 { r with ao := r.ao.setIfInBounds n q } o = imageByte h0 h1 r o := by
  by_cases ho : o < 12
  · simp only [imageByte, if_pos ho]
  · have hne : n ≠ (o - 12) / 2 := by omega
    simp only [imageByte, Vector.getElem?_setIfInBounds_ne hne]

end

/-! ## What the fields of a received buffer read -/

section
variable {buf buf' : RxBuffer}

theorem memRead_congr {off n : Nat} (h : ∀ j < n, rxByte buf (off + j) = rxByte buf' (off + j)) :
    memRead buf off n = memRead buf' off n := by
  induction n with
  | zero => rfl
  | succ n ih => rw [memRead, memRead, ih fun j hj => h j (Nat.lt_succ_of_lt hj), h n (Nat.lt_succ_self n)]

/-- Every field but the digital inputs reads from byte 10 on (R67 to R69, R102). -/
theorem decodeFrame_congr_of_tail (h : ∀ o, 10 ≤ o → rxByte buf o = rxByte buf' o) :
    { decodeFrame buf with di := [] } = { decodeFrame buf' with di := [] } := by
  have hmem {off n : Nat} (hoff : 10 ≤ off) : memRead buf off n = memRead buf' off n :=
    memRead_congr fun j _ => h (off + j) (by omega)
  have hmrow k : rxByte buf (12 + k) = rxByte buf' (12 + k) := h _ (by omega)
  have htail k : rxByte buf (48 + k) = rxByte buf' (48 + k) := h _ (by omega)
  have hai k : memReadSigned buf (16 + 2 * k) = memReadSigned buf' (16 + 2 * k) := by
    rw [memReadSigned, memReadSigned, hmem (by omega)]
  simp only [decodeFrame, hmem (le_refl 10), hmrow, htail, hai]

theorem rxHeader_congr (h : ∀ o < 2, rxByte buf o = rxByte buf' o) : rxHeader buf = rxHeader buf' :=
  List.map_congr_left fun o ho => h o (List.mem_range.1 ho)

/-- Two digital inputs of different numbers have different bits (R75, R103). -/
theorem bit_of_digitalInput_injective {n k : Nat} (hn : 1 ≤ n) (hk : 1 ≤ k)
    (h : (byteOff 2 n, bitPos n) = (2 + (k - 1) / 8, (k - 1) % 8)) : n = k := by
  simp only [byteOff, bitPos, Prod.mk.injEq] at h
  omega

/-- Buffers that differ in one bit only agree in every byte but that bit's own. -/
theorem rxByte_eq_of_bits {p c o : Nat}
    (h : ∀ o b, (o, b) ≠ (p, c) → (rxByte buf o).getLsbD b = (rxByte buf' o).getLsbD b) (ho : o ≠ p) :
    rxByte buf o = rxByte buf' o :=
  BitVec.eq_of_getLsbD_eq fun b _ => h o b fun e => ho (Prod.mk.inj e).1

end

/-- Settles O11: the layout of the image gives each output its own bits; of the received fields only the digital
inputs read bytes 2 to 9. -/
theorem imageFieldsAreIndependent : Obligations.ImageFieldsAreIndependent := by
  unfold Obligations.ImageFieldsAreIndependent
  refine ⟨fun h0 h1 r o b => ?_, fun buf buf' k hk1 hk64 hbits => ⟨fun n hn hne => ?_, ?_, ?_⟩⟩
  · simp only [sendImage_getD]
    exact ⟨fun k v hk => imageByte_setDout h0 h1 r hk v o b,
      fun k v hk => imageByte_setTtl h0 h1 r hk v o b,
      fun v ho => by rw [imageByte_setRows h0 h1 r ho],
      fun v ho => by rw [imageByte_setCols h0 h1 r ho],
      fun n q hlo hhi => by rw [imageByte_setAnalog h0 h1 r hlo hhi]⟩
  · exact hbits _ _ fun e => hne (bit_of_digitalInput_injective hn hk1 e)
  · exact decodeFrame_congr_of_tail fun o ho => rxByte_eq_of_bits hbits (by omega)
  · exact rxHeader_congr fun o ho => rxByte_eq_of_bits hbits (by omega)

end Sys2Proof.Machine

/-!
PROOFS of the family 30_encoding.md: what the command interface does with a word that names no operation (R117, R120),
and the scale of the voltages that are read (R109).
-/

namespace Sys2Proof.Machine

/-! ## Words that name no operation -/

/-- The decoder's last arm is the only one an unassigned opcode can reach (R117, R120). -/
theorem decode_of_not_assignedOpcode {w : Word} (h : ¬ assignedOpcode w.op) :
    decode w = .error (.unassigned w.op) := by
  unfold decode
  split
  case h_35 => rfl
  all_goals
    rename_i hop
    exact absurd (by simp [assignedOpcode, hop]) h

theorem decode_of_eventOpcode {w : Word} (h : eventOpcode w.op) : ∃ i, decode w = .ok i ∧ i.isEvent = true := by
  rcases h with htick | hrx | hrxwait
  · exact ⟨.tick w.card, by simp [decode, htick], rfl⟩
  · exact ⟨.rx w.card, by simp [decode, hrx], rfl⟩
  · exact ⟨.rxwait w.card, by simp [decode, hrxwait], rfl⟩

/-- R120: neither kind of word is an operation, and the command interface answers both alike. -/
theorem runCommand_refused {w : Word} (h : ¬ assignedOpcode w.op ∨ eventOpcode w.op) (s : State) :
    runCommand w s = .next (s.raise (opcodeError w.op)) := by
  rcases h with hop | hop
  · simp [runCommand, decode_of_not_assignedOpcode hop]
  · obtain ⟨i, hdecode, hevent⟩ := decode_of_eventOpcode hop
    simp [runCommand, hdecode, hevent]

/-- The next input is a request: it leaves the agenda and the command interface takes it. -/
theorem step_command {s : State} {w : Word} {rest : List Input} (h : s.env.agenda = .command w :: rest) :
    step s = runCommand w (s.setEnv { s.env with agenda := rest }) := by
  simp only [step, fetchInput, h, runInput]

/-- Settles O4: the word is taken from the agenda, and refusing it writes its response only. -/
theorem unassignedAndEventWordsRefused : Obligations.UnassignedAndEventWordsRefused := by
  unfold Obligations.UnassignedAndEventWordsRefused
  intro s w rest hagenda hop
  rw [step_command hagenda, runCommand_refused hop]
  rfl

/-! ## Decoded voltages -/

/-- One raw unit more is 27/65536 V more (R106, R109). -/
theorem decodeVolt_strictMono : StrictMono decodeVolt := by
  intro r r' h
  have hcast : (r : Rat) < r' := Int.cast_lt.2 h
  unfold decodeVolt
  linarith

theorem decodeVolt_min : decodeVolt (-32768) = -27 / 2 := by norm_num [decodeVolt]

theorem decodeVolt_max : decodeVolt 32767 = 27 / 2 - 27 / 65536 := by norm_num [decodeVolt]

/-- Settles O20: `decodeVolt` is strictly monotone, so it is injective and keeps the raw values between its values at
their ends. -/
theorem decodeVoltLaws : Obligations.DecodeVoltLaws := by
  unfold Obligations.DecodeVoltLaws
  refine ⟨fun _ _ h => decodeVolt_strictMono.injective h, fun _ _ h => decodeVolt_strictMono h, fun q => ⟨?_, ?_⟩,
    decodeVolt_min, decodeVolt_max, fun r => ⟨27 * r, ?_⟩⟩
  · have hlo : -32768 ≤ q.toInt := BitVec.le_toInt q
    exact decodeVolt_min ▸ decodeVolt_strictMono.monotone hlo
  · have hhi : q.toInt ≤ 32767 := Int.le_of_lt_add_one (BitVec.toInt_lt (x := q))
    exact decodeVolt_max ▸ decodeVolt_strictMono.monotone hhi
  · unfold decodeVolt
    push_cast
    ring

end Sys2Proof.Machine

/-!
PROOFS of the family 40_codec.md: which check of a codec operation decides its answer (R159, R160).
-/

namespace Sys2Proof.Machine

/-! ## A fleet operation on a card with a channel -/

section
variable {s : State} {c : Int} {ch : Channel}

/-- The fleet passes a getter on to the channel it finds (R186). -/
theorem fleetGet_of_chan (h : s.chan c = some ch) (f : Channel → Response) : fleetGet c f s = f ch := by
  simp [fleetGet, h]

/-- A setter refused by the channel's checks writes nothing (R186, R279). -/
theorem fleetSet_of_error {f : SendRegs → Except Err SendRegs} {e : Err} (h : s.chan c = some ch)
    (hf : f ch.sf = .error e) : fleetSet c f s = (.error e, s) := by
  simp [fleetSet, h, hf]

/-- A refused analog output is refused before the environment is asked about a tie (R108, R145). -/
theorem fleetSetAnalog_of_refusal {n : Int} {v : Volts} {e : Err} (h : s.chan c = some ch)
    (hrefusal : analogRefusal n v = some e) : fleetSetAnalog c n v s = (.error e, s) := by
  have hset : SendRegs.setAnalog s.cfg.roundTie false n v ch.sf = .error e := by
    simp [SendRegs.setAnalog, hrefusal]
  simp [fleetSetAnalog, hrefusal, fleetSet_of_error h hset]

end

/-! ## The checks, in their order -/

/-- The index is checked before the voltage (R145, R160). -/
theorem analogRefusal_of_index {n : Int} (h : n < 0 ∨ 7 < n) (v : Volts) : analogRefusal n v = some (rangeError n) :=
  if_pos h

/-- The rows are checked before the columns (R141, R160). -/
theorem setDims_of_rows {rows : Int} (h : rows < 0 ∨ 8 < rows) (cols : Int) (r : SendRegs) :
    SendRegs.setDims rows cols r = .error (rangeError rows) :=
  if_pos h

/-- The index is checked before the frame (R153, R160). -/
theorem digitalInput_of_index {n : Int} (h : n < 1 ∨ 64 < n) (ch : Channel) :
    digitalInput n ch = .error (rangeError n) :=
  if_pos h

/-- The index is checked before the frame (R155, R160). -/
theorem analogInput_of_index {n : Int} (h : n < 0 ∨ 15 < n) (ch : Channel) :
    analogInput n ch = .error (rangeError n) :=
  if_pos h

section
variable {ch : Channel} (hrf : ch.rf = none)
include hrf

/-- No getter of inputs has a value before the first frame (R159). -/
theorem ofFrame_of_no_frame (f : RxBuffer → Value) : ofFrame f ch = .absent := by
  simp [ofFrame, hrf]

theorem digitalInput_of_no_frame {n : Int} (h : ¬(n < 1 ∨ 64 < n)) : digitalInput n ch = .absent :=
  (if_neg h).trans (ofFrame_of_no_frame hrf _)

theorem analogInput_of_no_frame {n : Int} (h : ¬(n < 0 ∨ 15 < n)) : analogInput n ch = .absent :=
  (if_neg h).trans (ofFrame_of_no_frame hrf _)

end

/-! ## The operations' answers on a card with a channel -/

section
variable {s : State} {c : Nat} {ch : Channel} (h : s.chan c = some ch)
include h

theorem exec_sao_of_refusal {n : Nat} {mv : Int} {e : Err} (hrefusal : analogRefusal n ((mv : Rat) / 1000) = some e) :
    exec (.sao c n mv) s = .next (s.respond (.error e)) := by
  change execSao c n mv s = _
  rw [execSao, fleetSetAnalog_of_refusal h hrefusal]
  rfl

theorem exec_smd_of_error {rows cols : Nat} {e : Err} (hdims : SendRegs.setDims rows cols ch.sf = .error e) :
    exec (.smd c rows cols) s = .next (s.respond (.error e)) := by
  change execSmd c rows cols s = _
  rw [execSmd, fleetSet_of_error h hdims]
  rfl

theorem exec_gdi_of_chan (n : Nat) : exec (.gdi c n) s = .next (s.respond (digitalInput n ch)) := by
  change execGdi c n s = _
  rw [execGdi, fleetGet_of_chan h]

theorem exec_gdia_of_chan : exec (.gdia c) s = .next (s.respond (digitalInputsActive ch)) := by
  change execGdia c s = _
  rw [execGdia, fleetGet_of_chan h]

theorem exec_gai_of_chan (n : Nat) : exec (.gai c n) s = .next (s.respond (analogInput n ch)) := by
  change execGai c n s = _
  rw [execGai, fleetGet_of_chan h]

theorem exec_gts_of_chan : exec (.gts c) s = .next (s.respond (ttlStatus ch)) := by
  change execGts c s = _
  rw [execGts, fleetGet_of_chan h]

end

/-- Settles O17: SAO and SMD are refused by their first failing check whatever the later operand is; a getter of inputs
reads the frame only after its index was found legal. -/
theorem firstFailingCheckDecides : Obligations.FirstFailingCheckDecides := by
  unfold Obligations.FirstFailingCheckDecides
  intro s c ch hchan
  refine ⟨fun n mv hn _ => ?sao, fun rows cols hrows _ => ?smd, fun hrf =>
    ⟨fun n hn => ?gdiIndex, fun n hn => ?gaiIndex, fun n hlo hhi => ?gdiFrame, fun n hn => ?gaiFrame, ?gdia, ?gts⟩⟩
  case sao => exact exec_sao_of_refusal hchan (analogRefusal_of_index (by omega) _)
  case smd => exact exec_smd_of_error hchan (setDims_of_rows (by omega) _ _)
  case gdiIndex => rw [exec_gdi_of_chan hchan, digitalInput_of_index (by omega)]; rfl
  case gaiIndex => rw [exec_gai_of_chan hchan, analogInput_of_index (by omega)]; rfl
  case gdiFrame => rw [exec_gdi_of_chan hchan, digitalInput_of_no_frame hrf (by omega)]; rfl
  case gaiFrame => rw [exec_gai_of_chan hchan, analogInput_of_no_frame hrf (by omega)]; rfl
  case gdia => rw [exec_gdia_of_chan hchan, digitalInputsActive, ofFrame_of_no_frame hrf]; rfl
  case gts => rw [exec_gts_of_chan hchan, ttlStatus, ofFrame_of_no_frame hrf]; rfl

end Sys2Proof.Machine

/-!
PROOFS of the encoding of command words: the fields of a packed word, the decoder on them, and the step that takes a
decoded word from the agenda (R15, R116 to R118).
-/

namespace Sys2Proof.Machine

open Laws.OpcodeField (packK_op flagBits_lt schemeBits_lt signedBits_lt)

/-! ## The fields of a packed word -/

section
variable {op card a b : Nat} (hop : op < 64) (hc : card < 8) (ha : a < 128)
include hop hc ha

theorem packK_toNat (hb : b < 65536) :
    (packK op card a b).toNat = op * 2 ^ 26 + card * 2 ^ 23 + a * 2 ^ 16 + b := by
  simp only [packK, BitVec.toNat_ofNat]
  omega

theorem packK_card (hb : b < 65536) : (packK op card a b).card = card := by
  rw [Word.card, packK_toNat hop hc ha hb]
  omega

theorem packK_a (hb : b < 65536) : (packK op card a b).a = a := by
  rw [Word.a, packK_toNat hop hc ha hb]
  omega

theorem packK_b (hb : b < 65536) : (packK op card a b).b = b := by
  rw [Word.b, packK_toNat hop hc ha hb]
  omega

theorem packK_flag (s : Bool) : (packK op card a (flagBits s)).flag = s := by
  rw [Word.flag, packK_b hop hc ha (flagBits_lt s)]
  cases s <;> rfl

theorem packK_scheme (sch : Scheme) : (packK op card a (schemeBits sch)).scheme = sch := by
  rw [Word.scheme, packK_b hop hc ha (schemeBits_lt sch)]
  cases sch <;> rfl

theorem packK_cols (hb : b < 256) : (packK op card a b).cols = b := by
  rw [Word.cols, packK_b hop hc ha (by omega)]
  omega

theorem packK_millivolts {mv : Int} (hmv : -32768 ≤ mv ∧ mv ≤ 32767) :
    (packK op card a (signedBits mv)).millivolts = mv := by
  rw [Word.millivolts, packK_b hop hc ha (signedBits_lt mv), signedBits]
  split <;> omega

theorem packK_pattern (p : Pattern) : (packK op card a p.toNat).pattern = p := by
  rw [Word.pattern, packK_b hop hc ha p.isLt, BitVec.ofNat_toNat, BitVec.setWidth_eq]

theorem packK_pairB (hb : b < 128) : (packK op card a b).pairB = b := by
  rw [Word.pairB, packK_b hop hc ha (by omega)]
  omega

end

/-! ## Decoding an encoded instruction -/

/-- Settles O1: packing keeps every field, and each operand is read back from its own. The cases are the operand shapes
of R118. -/
theorem decodeOfEncode : Obligations.DecodeOfEncode := by
  unfold Obligations.DecodeOfEncode
  intro i hwf
  cases i
  all_goals simp only [Instr.wf, fitsCard, fitsA, fitsCols, fitsMillivolts, fitsPairB, Bool.and_eq_true,
    decide_eq_true_eq] at hwf
  case sdo c n s | sttl c n s =>
    have hb := flagBits_lt s
    simp (disch := omega) [encode, decode, packK_op, packK_card, packK_a, packK_flag]
  case gdo | gttl | gao | gdi | gai => simp (disch := omega) [encode, decode, packK_op, packK_card, packK_a]
  case smd => simp (disch := omega) [encode, decode, packK_op, packK_card, packK_a, packK_cols]
  case sao c n mv =>
    have hb := signedBits_lt mv
    simp (disch := omega) [encode, decode, packK_op, packK_card, packK_a, packK_millivolts]
  case gmd | enc | gdia | gts | parse | start | stop | live | tick | rx | rxwait =>
    simp (disch := omega) [encode, decode, packK_op, packK_card]
  case lookup pin sch | route pin sch =>
    have hb := schemeBits_lt sch
    simp (disch := omega) [encode, decode, packK_op, packK_a, packK_scheme]
  case clrbits p =>
    have hb : p.toNat < 65536 := p.isLt
    simp (disch := omega) [encode, decode, packK_op, packK_pattern]
  case pwr | pup | lgc => simp (disch := omega) [encode, decode, packK_op, packK_a]
  case rft => simp (disch := omega) [encode, decode, packK_op, packK_a, packK_pairB]
  case startall | stopall | clrall | sct | runseq | reqstop | close => rfl

/-! ## Words of an assigned opcode -/

/-- The fields of a word fit, and so do the operands read from them. -/
theorem word_operands_fit (w : Word) :
    fitsCard w.card = true ∧ fitsA w.a = true ∧ fitsCols w.cols = true ∧ fitsMillivolts w.millivolts = true ∧
      fitsPairB w.pairB = true := by
  have hb : w.b < 65536 := Nat.mod_lt _ (by decide)
  refine ⟨decide_eq_true (Nat.mod_lt _ (by decide)), decide_eq_true (Nat.mod_lt _ (by decide)),
    decide_eq_true (Nat.mod_lt _ (by decide)), decide_eq_true ?_, decide_eq_true (Nat.mod_lt _ (by decide))⟩
  unfold Word.millivolts
  split <;> omega

/-- Whatever the decoder reads has the word's opcode and operands that fit (R116, R117). -/
theorem decode_ok {w : Word} {i : Instr} (h : decode w = .ok i) : i.opcode = w.op ∧ i.wf = true := by
  obtain ⟨hc, ha, hcols, hmv, hk⟩ := word_operands_fit w
  unfold decode at h
  split at h
  case h_35 => simp at h
  all_goals
    rename_i hop
    obtain rfl := Except.ok.inj h
    simp [Instr.opcode, Instr.wf, hop, hc, ha, hcols, hmv, hk]

theorem decode_of_assignedOpcode {w : Word} (h : assignedOpcode w.op) : ∃ i, decode w = .ok i := by
  unfold decode
  split
  case h_35 =>
    simp only [imp_false] at *
    unfold assignedOpcode at h
    omega
  all_goals exact ⟨_, rfl⟩

/-- Settles O2: the opcodes are the assigned ones and the rest, and the decoder has an arm for exactly the assigned. -/
theorem assignedOpcodesDecode : Obligations.AssignedOpcodesDecode := by
  unfold Obligations.AssignedOpcodesDecode
  intro w
  by_cases hop : assignedOpcode w.op
  · obtain ⟨i, hi⟩ := decode_of_assignedOpcode hop
    exact .inr ⟨hop, i, hi, decode_ok hi⟩
  · refine .inl ⟨?_, decode_of_not_assignedOpcode hop⟩
    unfold assignedOpcode at hop
    omega

/-- Settles O3: the listed words, decoded. -/
theorem specWordsDecode : Obligations.SpecWordsDecode := by
  unfold Obligations.SpecWordsDecode
  decide

/-! ## A step runs the decoded word -/

/-- The next input is an event: it leaves the agenda and its loop takes it. -/
theorem step_event {s : State} {w : Word} {rest : List Input} (h : s.env.agenda = .event w :: rest) :
    step s = runEvent w (s.setEnv { s.env with agenda := rest }) := by
  simp only [step, fetchInput, h, runInput]

theorem runCommand_decoded {w : Word} {i : Instr} (h : decode w = .ok i) (he : i.isEvent = false) (s : State) :
    runCommand w s = exec i s := by
  simp [runCommand, h, he]

theorem runEvent_decoded {w : Word} {i : Instr} (h : decode w = .ok i) (he : i.isEvent = true) (s : State) :
    runEvent w s = exec i s := by
  simp [runEvent, h, he]

theorem tableWord_toNat (w : Word) : tableWord 32 w.toNat = w := by
  rw [tableWord, Nat.mod_eq_of_lt w.isLt, BitVec.ofNat_toNat, BitVec.setWidth_eq]

/-- An input placed first in the agenda is the next one, and taking it gives the state back. -/
theorem step_prepend (s : State) (x : Input) : step (s.prepend x) = runInput x s := rfl

/-- A word is placed as a request or as an event, whichever its instruction is. -/
theorem wordInput_of_decode {w : Word} {i : Instr} (h : decode w = .ok i) :
    wordInput 32 w.toNat = if i.isEvent then .event w else .command w := by
  simp [wordInput, decodeTableWord, tableWord_toNat, h]

/-- Settles O5: a request or an event leaves the agenda, and its decoded instruction runs. -/
theorem stepRunsTheDecodedInstruction : Obligations.StepRunsTheDecodedInstruction := by
  unfold Obligations.StepRunsTheDecodedInstruction
  intro w i hd
  refine ⟨fun s rest hagenda he => ?command, fun s rest hagenda he => ?event, fun s => ?placed⟩
  case command =>
    rw [step_command hagenda, runCommand_decoded hd he]
    rfl
  case event =>
    rw [step_event hagenda, runEvent_decoded hd he]
    rfl
  case placed =>
    rw [State.withFetchWord, step_prepend, wordInput_of_decode hd]
    cases he : i.isEvent
    · exact runCommand_decoded hd he s
    · exact runEvent_decoded hd he s

end Sys2Proof.Machine

/-!
PROOFS of the voltage conversion: rounding is to a nearest integer, and the clamp acts above 32767 only within the legal
range (R107, R108, R110).
-/

namespace Sys2Proof.Machine

/-! ## Rounding (R108) -/

theorem absRat_eq_abs (x : Rat) : absRat x = |x| := by
  unfold absRat
  split
  · rw [abs_of_neg ‹_›]
  · rw [abs_of_nonneg (by linarith)]

/-- A rounded value is at most half a unit away, however a tie goes. -/
theorem roundRat_near (tie : RoundTie) (up : Bool) (x : Rat) : |(roundRat tie up x : Rat) - x| ≤ 1 / 2 := by
  have hlo := Rat.floor_le x
  have hhi := Rat.lt_floor (x := x)
  have hdown (h : x - x.floor ≤ 1 / 2) : |(x.floor : Rat) - x| ≤ 1 / 2 := by
    rw [abs_le]; constructor <;> linarith
  have hup (h : 1 / 2 ≤ x - x.floor) : |((x.floor + 1 : Int) : Rat) - x| ≤ 1 / 2 := by
    push_cast; rw [abs_le]; constructor <;> linarith
  unfold roundRat
  split
  · exact hdown (by linarith)
  · split
    · exact hup (by linarith)
    · have hle : x - x.floor ≤ 1 / 2 := by linarith
      have hge : 1 / 2 ≤ x - x.floor := by linarith
      cases tie <;> dsimp only <;> split <;> first | exact hdown hle | exact hup hge

/-- Away from a tie it is less than half a unit away. -/
theorem roundRat_nearer {x : Rat} (h : isTie x = false) (tie : RoundTie) (up : Bool) :
    |(roundRat tie up x : Rat) - x| < 1 / 2 := by
  refine lt_of_le_of_ne (roundRat_near tie up x) fun he => ?_
  have hlo := Rat.floor_le x
  have hhi := Rat.lt_floor (x := x)
  have htie : ¬ x - x.floor = 1 / 2 := by simpa [isTie] using h
  unfold roundRat at he
  split at he
  · rw [abs_of_nonpos (by linarith)] at he
    linarith
  · split at he
    · push_cast at he
      rw [abs_of_nonneg (by linarith)] at he
      linarith
    · exact htie (by linarith)

/-- Two integers about the same number, one at most and one less than half a unit away, are one. -/
theorem int_eq_of_near {a b : Int} {x : Rat} (ha : |(a : Rat) - x| < 1 / 2) (hb : |(b : Rat) - x| ≤ 1 / 2) : a = b := by
  rw [abs_lt] at ha
  rw [abs_le] at hb
  have h1 : (a : Rat) < (b + 1 : Int) := by push_cast; linarith
  have h2 : (b : Rat) < (a + 1 : Int) := by push_cast; linarith
  have := Int.cast_lt.1 h1
  have := Int.cast_lt.1 h2
  omega

/-- An integer is rounded to itself. -/
theorem roundRat_intCast (tie : RoundTie) (up : Bool) (n : Int) : roundRat tie up n = n :=
  (int_eq_of_near (x := n) (by simp) (roundRat_near tie up n)).symm

/-- Rounding is monotone even if the ties of the two numbers go different ways. -/
theorem roundRat_mono_of_lt (tie : RoundTie) (up up' : Bool) {x y : Rat} (h : x < y) :
    roundRat tie up x ≤ roundRat tie up' y := by
  have hx := abs_le.1 (roundRat_near tie up x)
  have hy := abs_le.1 (roundRat_near tie up' y)
  have : (roundRat tie up x : Rat) < (roundRat tie up' y + 1 : Int) := by push_cast; linarith
  exact Int.lt_add_one_iff.1 (Int.cast_lt.1 this)

/-- Twice a tie is an odd integer. -/
theorem two_mul_of_isTie {x : Rat} (h : isTie x = true) : ∃ n : Int, 2 * x = (2 * n + 1 : Int) := by
  have htie : x - x.floor = 1 / 2 := by simpa [isTie] using h
  exact ⟨x.floor, by push_cast; linarith⟩

/-- A whole number of parts `p / q` of a volt is no tie when the raw units of twice one part are an even number over an
odd one. -/
theorem isTie_rawUnits_of_odd {v : Volts} {n q m : Int} (hq : q % 2 = 1) (h : 2 * rawUnits v * q = (2 * m * n : Int)) :
    isTie (rawUnits v) = false := by
  by_contra hne
  obtain ⟨k, hk⟩ := two_mul_of_isTie (by simpa using hne)
  rw [hk, ← Int.cast_mul, Int.cast_inj] at h
  have hodd : (2 * k + 1) * q % 2 = 1 := by rw [Int.mul_emod, hq]; omega
  rw [h, Int.mul_assoc, Int.mul_emod_right] at hodd
  omega

/-- No whole number of millivolts is a tie (R108, R145). -/
theorem isTie_millivolts (mv : Int) : isTie (rawUnits ((mv : Rat) / 1000)) = false :=
  isTie_rawUnits_of_odd (n := mv) (q := 3375) (m := 8192) (by decide) (by unfold rawUnits; push_cast; ring)

/-- No whole number of volts is a tie (R108, R222). -/
theorem isTie_volts (v : Int) : isTie (rawUnits (v : Rat)) = false :=
  isTie_rawUnits_of_odd (n := v) (q := 27) (m := 65536) (by decide) (by unfold rawUnits; push_cast; ring)

/-! ## The clamp (R107) -/

/-- In the legal range nothing is clamped but a value rounded to 32768. -/
theorem encodeVolt_legal {tie : RoundTie} {up : Bool} {v : Volts} (hlo : -27 / 2 ≤ v) (hhi : v ≤ 27 / 2) :
    (-32768 ≤ roundRat tie up (rawUnits v) ∧ roundRat tie up (rawUnits v) ≤ 32767 ∧
      encodeVolt tie up v = roundRat tie up (rawUnits v)) ∨
    (roundRat tie up (rawUnits v) = 32768 ∧ encodeVolt tie up v = 32767) := by
  have hr := abs_le.1 (roundRat_near tie up (rawUnits v))
  have hx : -32768 ≤ rawUnits v ∧ rawUnits v ≤ 32768 := by unfold rawUnits; constructor <;> linarith
  have h1 : ((-32769 : Int) : Rat) < roundRat tie up (rawUnits v) := by push_cast; linarith
  have h2 : (roundRat tie up (rawUnits v) : Rat) < (32769 : Int) := by push_cast; linarith
  have := Int.cast_lt.1 h1
  have := Int.cast_lt.1 h2
  unfold encodeVolt clampInt
  omega

/-- The error of a conversion is that of its raw value, in units of 27/65536 V (R106). -/
theorem abs_decodeVolt_sub (r : Int) (v : Volts) :
    absRat (decodeVolt r - v) = |(r : Rat) - rawUnits v| * (27 / 65536) := by
  have : decodeVolt r - v = ((r : Rat) - rawUnits v) * (27 / 65536) := by unfold decodeVolt rawUnits; ring
  rw [absRat_eq_abs, this, abs_mul, abs_of_pos (show (0 : Rat) < 27 / 65536 by norm_num)]

/-- The quantization bound: half a unit where nothing is clamped (R110, R148). -/
theorem abs_decode_encode_le {tie : RoundTie} {up : Bool} {v : Volts}
    (h : encodeVolt tie up v = roundRat tie up (rawUnits v)) :
    absRat (decodeVolt (encodeVolt tie up v) - v) ≤ 27 / 131072 := by
  rw [abs_decodeVolt_sub, h]
  linarith [roundRat_near tie up (rawUnits v)]

/-- Where the clamp acts the error is less than a unit, but at 13.5 V itself. -/
theorem abs_decode_encode_clamped {tie : RoundTie} {up : Bool} {v : Volts}
    (hr : roundRat tie up (rawUnits v) = 32768) (he : encodeVolt tie up v = 32767) :
    absRat (decodeVolt (encodeVolt tie up v) - v) = v - decodeVolt 32767 ∧ decodeVolt 32767 < v := by
  have hnear := abs_le.1 (roundRat_near tie up (rawUnits v))
  rw [hr] at hnear
  have hv : decodeVolt 32767 < v := by
    unfold rawUnits at hnear
    rw [decodeVolt_max]
    push_cast at hnear
    linarith
  rw [he, absRat_eq_abs, abs_of_neg (by linarith)]
  exact ⟨by ring, hv⟩

theorem encodeVolt_of_ge {v : Volts} (h : 27 / 2 ≤ v) (tie : RoundTie) (up : Bool) : encodeVolt tie up v = 32767 := by
  have hr := abs_le.1 (roundRat_near tie up (rawUnits v))
  have hx : 32768 ≤ rawUnits v := by unfold rawUnits; linarith
  have h1 : ((32767 : Int) : Rat) < roundRat tie up (rawUnits v) := by push_cast; linarith
  have := Int.cast_lt.1 h1
  unfold encodeVolt clampInt
  omega

theorem encodeVolt_of_le {v : Volts} (h : v ≤ -27 / 2) (tie : RoundTie) (up : Bool) : encodeVolt tie up v = -32768 := by
  have hr := abs_le.1 (roundRat_near tie up (rawUnits v))
  have hx : rawUnits v ≤ -32768 := by unfold rawUnits; linarith
  have h1 : (roundRat tie up (rawUnits v) : Rat) < (-32767 : Int) := by push_cast; linarith
  have := Int.cast_lt.1 h1
  unfold encodeVolt clampInt
  omega

/-! ## The laws -/

/-- A raw value survives the way to a voltage and back. -/
theorem encodeVolt_decodeVolt (tie : RoundTie) (up : Bool) (q : Raw) : encodeVolt tie up (decodeVolt q.toInt) = q.toInt := by
  have hlo : -32768 ≤ q.toInt := BitVec.le_toInt q
  have hhi : q.toInt < 32768 := BitVec.toInt_lt
  have hx : rawUnits (decodeVolt q.toInt) = q.toInt := by unfold rawUnits decodeVolt; ring
  unfold encodeVolt clampInt
  rw [hx, roundRat_intCast]
  omega

theorem encodeVolt_mono_of_lt (tie : RoundTie) (up up' : Bool) {v v' : Volts} (h : v < v') :
    encodeVolt tie up v ≤ encodeVolt tie up' v' := by
  have hx : rawUnits v < rawUnits v' := by unfold rawUnits; linarith
  have := roundRat_mono_of_lt tie up up' hx
  unfold encodeVolt clampInt
  omega

/-- Away from a tie, the opposite voltage has the opposite raw value. -/
theorem roundRat_neg {x : Rat} (h : isTie x = false) (tie : RoundTie) (up up' : Bool) :
    roundRat tie up' (-x) = -roundRat tie up x := by
  have hnear : |((-roundRat tie up x : Int) : Rat) - -x| < 1 / 2 := by
    have := roundRat_nearer h tie up
    rwa [← abs_neg, show -(((-roundRat tie up x : Int) : Rat) - -x) = (roundRat tie up x : Rat) - x by push_cast; ring]
  exact (int_eq_of_near hnear (roundRat_near tie up' (-x))).symm

theorem abs_decode_encode_eq_iff {tie : RoundTie} {up : Bool} {v : Volts} (hlo : -27 / 2 ≤ v) (hhi : v ≤ 27 / 2) :
    absRat (decodeVolt (encodeVolt tie up v) - v) = 27 / 65536 ↔ v = 27 / 2 := by
  constructor
  · intro he
    rcases encodeVolt_legal (tie := tie) (up := up) hlo hhi with ⟨-, -, h⟩ | ⟨hr, h⟩
    · linarith [abs_decode_encode_le h]
    · have := (abs_decode_encode_clamped hr h).1
      rw [decodeVolt_max] at this
      linarith
  · rintro rfl
    rw [encodeVolt_of_ge le_rfl, decodeVolt_max, absRat_eq_abs]
    norm_num [abs_of_neg]

/-- Settles O21: rounding goes to a nearest integer, and within the legal range only 32768 is clamped. -/
theorem voltageConversionLaws : Obligations.VoltageConversionLaws := by
  unfold Obligations.VoltageConversionLaws
  intro tie up
  refine ⟨encodeVolt_decodeVolt tie up, fun v hlo hhi => ⟨?bound, abs_decode_encode_le, abs_decode_encode_eq_iff hlo hhi⟩,
    fun up' v v' h => encodeVolt_mono_of_lt tie up up' h, ?zero, fun up' v htie he he' => ?neg,
    fun v h => encodeVolt_of_ge h tie up, fun v h => encodeVolt_of_le h tie up⟩
  case bound =>
    rcases encodeVolt_legal (tie := tie) (up := up) hlo hhi with ⟨-, -, h⟩ | ⟨hr, h⟩
    · linarith [abs_decode_encode_le h]
    · have := (abs_decode_encode_clamped hr h).1
      rw [decodeVolt_max] at this
      linarith
  case zero => simpa [decodeVolt] using encodeVolt_decodeVolt tie up 0
  case neg =>
    rw [he, he', show rawUnits (-v) = -rawUnits v by unfold rawUnits; ring]
    exact roundRat_neg htie tie up up'

end Sys2Proof.Machine

/-!
PROOFS about the frame registers and the operations that write and read them (R61 to R65, R101, R131 to R151).
-/

namespace Sys2Proof.Machine

/-! ## Operations on a card with a channel -/

section
variable {s : State} {c : Int} {ch : Channel}

/-- A setter that the channel's checks accept writes its registers (R186). -/
theorem fleetSet_of_ok {f : SendRegs → Except Err SendRegs} {r : SendRegs} (h : s.chan c = some ch)
    (hf : f ch.sf = .ok r) : fleetSet c f s = (.ok, s.setChan c { ch with sf := r }) := by
  simp [fleetSet, h, hf]

/-- Away from a tie the environment has nothing to choose (R108). -/
theorem fleetSetAnalog_of_not_tie {v : Volts} (h : isTie (rawUnits v) = false) (c n : Int) (s : State) :
    fleetSetAnalog c n v s = fleetSet c (SendRegs.setAnalog s.cfg.roundTie false n v) s := by
  simp [fleetSetAnalog, h]

end

section
variable {s : State} {c : Nat} {ch : Channel} (h : s.chan c = some ch)
include h

theorem exec_sdo_of_ok {n : Nat} {b : Bool} {r : SendRegs} (hf : SendRegs.setDigital n b ch.sf = .ok r) :
    exec (.sdo c n b) s = .next ((s.setChan c { ch with sf := r }).respond .ok) := by
  change execSdo c n b s = _
  rw [execSdo, fleetSet_of_ok h hf]
  rfl

theorem exec_sdo_of_error {n : Nat} {b : Bool} {e : Err} (hf : SendRegs.setDigital n b ch.sf = .error e) :
    exec (.sdo c n b) s = .next (s.respond (.error e)) := by
  change execSdo c n b s = _
  rw [execSdo, fleetSet_of_error h hf]
  rfl

theorem exec_sttl_of_ok {n : Nat} {b : Bool} {r : SendRegs} (hf : SendRegs.setTtl n b ch.sf = .ok r) :
    exec (.sttl c n b) s = .next ((s.setChan c { ch with sf := r }).respond .ok) := by
  change execSttl c n b s = _
  rw [execSttl, fleetSet_of_ok h hf]
  rfl

theorem exec_sttl_of_error {n : Nat} {b : Bool} {e : Err} (hf : SendRegs.setTtl n b ch.sf = .error e) :
    exec (.sttl c n b) s = .next (s.respond (.error e)) := by
  change execSttl c n b s = _
  rw [execSttl, fleetSet_of_error h hf]
  rfl

theorem exec_smd_of_ok {rows cols : Nat} {r : SendRegs} (hf : SendRegs.setDims rows cols ch.sf = .ok r) :
    exec (.smd c rows cols) s = .next ((s.setChan c { ch with sf := r }).respond .ok) := by
  change execSmd c rows cols s = _
  rw [execSmd, fleetSet_of_ok h hf]
  rfl

theorem exec_sao_of_ok {n : Nat} {mv : Int} {r : SendRegs}
    (hf : SendRegs.setAnalog s.cfg.roundTie false n ((mv : Rat) / 1000) ch.sf = .ok r) :
    exec (.sao c n mv) s = .next ((s.setChan c { ch with sf := r }).respond .ok) := by
  change execSao c n mv s = _
  rw [execSao, fleetSetAnalog_of_not_tie (isTie_millivolts mv), fleetSet_of_ok h hf]
  rfl

theorem exec_gdo_of_chan (n : Nat) : exec (.gdo c n) s = .next (s.respond (digitalOutput n ch)) := by
  change execGdo c n s = _
  rw [execGdo, fleetGet_of_chan h]

theorem exec_gttl_of_chan (n : Nat) : exec (.gttl c n) s = .next (s.respond (ttlOutput n ch)) := by
  change execGttl c n s = _
  rw [execGttl, fleetGet_of_chan h]

theorem exec_gmd_of_chan : exec (.gmd c) s = .next (s.respond (matrixDimensions ch)) := by
  change execGmd c s = _
  rw [execGmd, fleetGet_of_chan h]

theorem exec_gao_of_chan (n : Nat) : exec (.gao c n) s = .next (s.respond (analogOutput n ch)) := by
  change execGao c n s = _
  rw [execGao, fleetGet_of_chan h]

theorem exec_enc_of_chan : exec (.enc c) s = .next (s.respond (.okValue (.bytes (imageOf s.cfg ch)))) := by
  change execEnc c s = _
  rw [execEnc, fleetGet_of_chan h]

end

/-! ## The register writes -/

section
variable {n : Nat} (r : SendRegs)

theorem setDigital_legal (hlo : 1 ≤ n) (hhi : n ≤ 32) (b : Bool) :
    SendRegs.setDigital n b r = .ok { r with dout := setBit r.dout (n - 1) b } := by
  rw [SendRegs.setDigital, if_neg (by omega), show ((n : Int) - 1).toNat = n - 1 by omega]

theorem setDigital_illegal {n : Int} (h : n < 1 ∨ 32 < n) (b : Bool) :
    SendRegs.setDigital n b r = .error (rangeError n) := if_pos h

theorem setTtl_legal (hlo : 1 ≤ n) (hhi : n ≤ 16) (b : Bool) :
    SendRegs.setTtl n b r = .ok { r with ttl := setBit r.ttl (n - 1) b } := by
  rw [SendRegs.setTtl, if_neg (by omega), show ((n : Int) - 1).toNat = n - 1 by omega]

theorem setTtl_illegal {n : Int} (h : n < 1 ∨ 16 < n) (b : Bool) :
    SendRegs.setTtl n b r = .error (rangeError n) := if_pos h

theorem setDims_legal {rows cols : Nat} (hr : rows ≤ 8) (hc : cols ≤ 8) :
    SendRegs.setDims rows cols r = .ok { r with rows := Fin.ofNat 9 rows, cols := Fin.ofNat 9 cols } := by
  rw [SendRegs.setDims, if_neg (by omega), if_neg (by omega)]
  rfl

/-- The columns are checked after the rows (R141, R160). -/
theorem setDims_of_cols {rows cols : Int} (hr : ¬(rows < 0 ∨ 8 < rows)) (hc : cols < 0 ∨ 8 < cols) :
    SendRegs.setDims rows cols r = .error (rangeError cols) := by
  rw [SendRegs.setDims, if_neg hr, if_pos hc]

theorem setAnalog_legal {v : Volts} (hn : n ≤ 7) (hlo : -27 / 2 ≤ v) (hhi : v ≤ 27 / 2) (tie : RoundTie) (up : Bool) :
    SendRegs.setAnalog tie up n v r =
      .ok { r with ao := r.ao.setIfInBounds n (BitVec.ofInt 16 (encodeVolt tie up v)) } := by
  have : analogRefusal n v = none := by
    rw [analogRefusal, if_neg (by omega), if_neg (by rw [not_or, not_lt, not_lt]; exact ⟨hlo, hhi⟩)]
  rw [SendRegs.setAnalog, this]
  rfl

/-- The voltage is checked after the index (R145, R160). -/
theorem analogRefusal_of_voltage {v : Volts} (hn : n ≤ 7) (hv : v < -27 / 2 ∨ 27 / 2 < v) :
    analogRefusal n v = some (voltageError v) := by
  rw [analogRefusal, if_neg (by omega), if_pos hv]

/-- The raw value of a voltage fits its register (R25, R107). -/
theorem toInt_ofInt_encodeVolt (tie : RoundTie) (up : Bool) (v : Volts) :
    (BitVec.ofInt 16 (encodeVolt tie up v)).toInt = encodeVolt tie up v := by
  have : -32768 ≤ encodeVolt tie up v ∧ encodeVolt tie up v ≤ 32767 := by
    unfold encodeVolt clampInt
    omega
  rw [BitVec.toInt_ofInt, Int.bmod_eq_of_le] <;> omega

/-- An analog register after one was written (R148). -/
theorem analog_setIfInBounds {n : Nat} (ao : Vector Raw 8) (hn : n ≤ 7) (q : Raw) :
    (ao.setIfInBounds n q)[n]? = some q ∧ ∀ k, k ≠ n → (ao.setIfInBounds n q)[k]? = ao[k]? :=
  ⟨Vector.getElem?_setIfInBounds_self_of_lt (by omega), fun _ hk => Vector.getElem?_setIfInBounds_ne hk.symm⟩

end

/-! ## The setters -/

/-- Settles O6: the two setters set one bit of their register. -/
theorem setDigitalAndTtlOutput : Obligations.SetDigitalAndTtlOutput := by
  unfold Obligations.SetDigitalAndTtlOutput
  refine ⟨fun s c n b ch h hlo hhi => ?sdo, fun s c n b ch h hlo hhi => ?sttl, fun s c ch ch' d h => ?other⟩
  case sdo =>
    refine ⟨_, exec_sdo_of_ok h (setDigital_legal ch.sf hlo hhi b), fun k => ?_, rfl, rfl, rfl, rfl⟩
    simp [setBit_getLsbD, show n - 1 < 32 by omega]
  case sttl =>
    refine ⟨_, exec_sttl_of_ok h (setTtl_legal ch.sf hlo hhi b), fun k => ?_, rfl, rfl, rfl, rfl⟩
    simp [setBit_getLsbD, show n - 1 < 16 by omega]
  case other => exact State.chan_setChan s (State.chan_bounds h) ch' d

/-- Settles O7. -/
theorem setMatrixDimensions : Obligations.SetMatrixDimensions := by
  unfold Obligations.SetMatrixDimensions
  intro s c rows cols ch h hr hc
  exact ⟨_, exec_smd_of_ok h (setDims_legal ch.sf hr hc), Nat.mod_eq_of_lt (by omega), Nat.mod_eq_of_lt (by omega),
    rfl, rfl, rfl⟩

/-- A legal millivolt value is stored to less than half a raw unit, but at 13.5 V, the only one that is clamped. -/
theorem encodeVolt_millivolts {mv : Int} (hlo : -13500 ≤ mv) (hhi : mv ≤ 13500) (tie : RoundTie) (up : Bool) :
    (mv = 13500 ∧ encodeVolt tie up ((mv : Rat) / 1000) = 32767) ∨
      absRat ((encodeVolt tie up ((mv : Rat) / 1000) : Rat) - (mv : Rat) / 1000 * 65536 / 27) < 1 / 2 := by
  have hlo' : ((-13500 : Int) : Rat) ≤ mv := Int.cast_le.2 hlo
  have hhi' : (mv : Rat) ≤ (13500 : Int) := Int.cast_le.2 hhi
  push_cast at hlo' hhi'
  have hnear := roundRat_nearer (isTie_millivolts mv) tie up
  rcases encodeVolt_legal (tie := tie) (up := up) (v := (mv : Rat) / 1000) (by linarith) (by linarith) with
    ⟨-, -, he⟩ | ⟨hr, he⟩
  · right
    rw [he, absRat_eq_abs]
    exact hnear
  · left
    rw [hr, abs_lt, rawUnits] at hnear
    have : ((13499 : Int) : Rat) < mv := by push_cast at hnear ⊢; linarith
    have := Int.cast_lt.1 this
    exact ⟨by omega, he⟩

/-- Settles O8: no millivolt value is a tie, so the nearest raw value is stored without a draw. -/
theorem setAnalogOutput : Obligations.SetAnalogOutput := by
  unfold Obligations.SetAnalogOutput
  intro s c n mv ch h hn hlo hhi
  have hlo' : ((-13500 : Int) : Rat) ≤ mv := Int.cast_le.2 hlo
  have hhi' : (mv : Rat) ≤ (13500 : Int) := Int.cast_le.2 hhi
  push_cast at hlo' hhi'
  have hset := setAnalog_legal ch.sf (v := (mv : Rat) / 1000) hn (by linarith) (by linarith) s.cfg.roundTie false
  obtain ⟨hself, hother⟩ := analog_setIfInBounds ch.sf.ao hn
    (BitVec.ofInt 16 (encodeVolt s.cfg.roundTie false ((mv : Rat) / 1000)))
  refine ⟨_, _, exec_sao_of_ok h hset, ?_, hself, hother, rfl, rfl, rfl, rfl⟩
  rw [toInt_ofInt_encodeVolt]
  exact encodeVolt_millivolts hlo hhi _ _

/-! ## The getters of outputs -/

section
variable {n : Nat} (ch : Channel)

theorem digitalOutput_legal (hlo : 1 ≤ n) (hhi : n ≤ 32) :
    digitalOutput n ch = .okValue (.bool (ch.sf.dout.getLsbD (n - 1))) := by
  rw [digitalOutput, if_neg (by omega), SendRegs.digital, show ((n : Int) - 1).toNat = n - 1 by omega]

theorem digitalOutput_illegal {n : Int} (h : n < 1 ∨ 32 < n) : digitalOutput n ch = .error (rangeError n) := if_pos h

theorem ttlOutput_legal (hlo : 1 ≤ n) (hhi : n ≤ 16) :
    ttlOutput n ch = .okValue (.bool (ch.sf.ttl.getLsbD (n - 1))) := by
  rw [ttlOutput, if_neg (by omega), SendRegs.ttlBit, show ((n : Int) - 1).toNat = n - 1 by omega]

theorem ttlOutput_illegal {n : Int} (h : n < 1 ∨ 16 < n) : ttlOutput n ch = .error (rangeError n) := if_pos h

theorem analogOutput_legal {q : Raw} (h : ch.sf.ao[n]? = some q) :
    analogOutput n ch = .okValue (.volts (decodeVolt q.toInt)) := by
  have hn : n < 8 := (Vector.getElem?_eq_some_iff.1 h).1
  rw [analogOutput, if_neg (by omega), SendRegs.analog, Int.toNat_natCast, h]
  rfl

theorem analogOutput_illegal {n : Int} (h : n < 0 ∨ 7 < n) : analogOutput n ch = .error (rangeError n) := if_pos h

end

/-- Settles O9. -/
theorem outputGettersReadTheRegisters : Obligations.OutputGettersReadTheRegisters := by
  unfold Obligations.OutputGettersReadTheRegisters
  intro s c n ch h
  refine ⟨fun hlo hhi => ?gdo, fun hlo hhi => ?gttl, ?gmd, fun q hq => ?gao⟩
  case gdo => rw [exec_gdo_of_chan h, digitalOutput_legal ch hlo hhi]; rfl
  case gttl => rw [exec_gttl_of_chan h, ttlOutput_legal ch hlo hhi]; rfl
  case gmd => rw [exec_gmd_of_chan h]; rfl
  case gao => rw [exec_gao_of_chan h, analogOutput_legal ch hq]; rfl

/-! ## The send image -/

section
variable (h0 h1 : Byte) (r : SendRegs)

theorem sendImage_getElem? {o : Nat} (ho : o < 32) : (sendImage h0 h1 r)[o]? = some (imageByte h0 h1 r o) := by
  have hlen : o < (sendImage h0 h1 r).length := ho
  rw [← sendImage_getD, List.getElem?_eq_getElem hlen]
  rfl

theorem imageByte_analog {o n : Nat} {q : Raw} (hq : r.ao[n]? = some q) (ho : o = 12 + 2 * n ∨ o = 13 + 2 * n) :
    imageByte h0 h1 r o = byteAt q (o - (12 + 2 * n)) := by
  have hn : n < 8 := (Vector.getElem?_eq_some_iff.1 hq).1
  have hsub : (o - 12) / 2 = n ∧ (o - 12) % 2 = o - (12 + 2 * n) := by omega
  simp only [imageByte, hsub, hq, Option.getD_some, if_neg (show o ≠ 0 by omega), if_neg (show o ≠ 1 by omega),
    if_neg (show ¬ o < 6 by omega), if_neg (show ¬ o < 8 by omega), if_neg (show o ≠ 8 by omega),
    if_neg (show o ≠ 9 by omega), if_neg (show ¬ o < 12 by omega), if_pos (show o < 28 by omega)]

/-- The bytes of the image that belong to no output (R61, R101). -/
theorem imageByte_zero {k : Nat} (hk : k = 10 ∨ k = 11 ∨ (28 ≤ k ∧ k ≤ 31)) : imageByte h0 h1 r k = 0 := by
  rcases hk with rfl | rfl | ⟨hlo, hhi⟩
  · rfl
  · rfl
  · interval_cases k <;> rfl

theorem toNat_ofNat_dim (d : Fin 9) : (BitVec.ofNat 8 d).toNat = d := by
  rw [BitVec.toNat_ofNat]
  exact Nat.mod_eq_of_lt (by omega)

/-- A 16-bit register is its two bytes, little-endian (R70). -/
theorem toNat_eq_bytes (q : Raw) : q.toNat = (byteAt q 0).toNat + 256 * (byteAt q 1).toNat := by
  have := q.isLt
  simp only [byteAt, BitVec.extractLsb'_toNat, Nat.shiftRight_eq_div_pow]
  omega

end

section
variable {h0 h1 : Byte} {r r' : SendRegs}

/-- Registers whose bytes agree are equal. -/
theorem eq_of_byteAt {w : Nat} {x y : BitVec w} (h : ∀ j < w / 8, byteAt x j = byteAt y j) (hw : w % 8 = 0) :
    x = y := by
  refine BitVec.eq_of_getLsbD_eq fun b hb => ?_
  have hbit := congrArg (BitVec.getLsbD · (b % 8)) (h (b / 8) (by omega))
  simpa only [byteAt_getLsbD, Nat.mod_lt b (show 8 > 0 by decide), decide_true, Bool.true_and, Nat.div_add_mod]
    using hbit

/-- The image determines every register (R151 (c)). -/
theorem sendImage_injective (h : sendImage h0 h1 r = sendImage h0 h1 r') : r = r' := by
  have hbyte (o : Nat) : imageByte h0 h1 r o = imageByte h0 h1 r' o := by rw [← sendImage_getD, ← sendImage_getD, h]
  have hdout : r.dout = r'.dout := eq_of_byteAt (fun j hj => by
    have := hbyte (2 + j)
    rwa [imageByte_dout _ _ _ (by omega) (by omega), imageByte_dout _ _ _ (by omega) (by omega),
      Nat.add_sub_cancel_left] at this) rfl
  have httl : r.ttl = r'.ttl := eq_of_byteAt (fun j hj => by
    have := hbyte (6 + j)
    rwa [imageByte_ttl _ _ _ (by omega) (by omega), imageByte_ttl _ _ _ (by omega) (by omega),
      Nat.add_sub_cancel_left] at this) rfl
  have hrows : r.rows = r'.rows := by
    have : BitVec.ofNat 8 r.rows = BitVec.ofNat 8 r'.rows := hbyte 8
    exact Fin.ext (by rw [← toNat_ofNat_dim, this, toNat_ofNat_dim])
  have hcols : r.cols = r'.cols := by
    have : BitVec.ofNat 8 r.cols = BitVec.ofNat 8 r'.cols := hbyte 9
    exact Fin.ext (by rw [← toNat_ofNat_dim, this, toNat_ofNat_dim])
  have hao : r.ao = r'.ao := by
    refine Vector.ext fun n hn => eq_of_byteAt (fun j hj => ?_) rfl
    have hj : j = 0 ∨ j = 1 := by omega
    have := hbyte (12 + 2 * n + j)
    rwa [imageByte_analog _ _ r (Vector.getElem?_eq_getElem hn) (by omega),
      imageByte_analog _ _ r' (Vector.getElem?_eq_getElem hn) (by omega), Nat.add_sub_cancel_left] at this
  cases r
  cases r'
  simp_all

end

/-- Settles O10: each clause is one row of the layout of the image. -/
theorem encodeReturnsTheSendImage : Obligations.EncodeReturnsTheSendImage := by
  unfold Obligations.EncodeReturnsTheSendImage
  refine ⟨fun s c ch h => ⟨exec_enc_of_chan h, rfl, rfl, rfl, fun n hlo hhi => ?dout, fun n hlo hhi => ?ttl,
    ⟨_, rfl, toNat_ofNat_dim _⟩, ⟨_, rfl, toNat_ofNat_dim _⟩, fun n q hq => ?analog, fun k hk => ?zero⟩,
    fun h0 h1 r r' h => sendImage_injective h⟩
  case dout =>
    refine ⟨_, sendImage_getElem? _ _ _ (by omega), ?_⟩
    rw [imageByte_dout _ _ _ (by omega) (by omega), byteAt_getLsbD, Nat.add_sub_cancel_left, Nat.div_add_mod]
    simp [Nat.mod_lt]
  case ttl =>
    refine ⟨_, sendImage_getElem? _ _ _ (by omega), ?_⟩
    rw [imageByte_ttl _ _ _ (by omega) (by omega), byteAt_getLsbD, Nat.add_sub_cancel_left, Nat.div_add_mod]
    simp [Nat.mod_lt]
  case analog =>
    have hn : n < 8 := (Vector.getElem?_eq_some_iff.1 hq).1
    refine ⟨_, _, sendImage_getElem? _ _ _ (by omega), sendImage_getElem? _ _ _ (by omega), ?_⟩
    rw [imageByte_analog _ _ _ hq (.inl rfl), imageByte_analog _ _ _ hq (.inr rfl), toNat_eq_bytes q,
      Nat.sub_self, show 13 + 2 * n - (12 + 2 * n) = 1 by omega]
  case zero =>
    refine (sendImage_getElem? _ _ _ (by omega)).trans ?_
    rw [imageByte_zero _ _ _ hk]

/-! ## Lists of digital outputs (R135) -/

section
variable {l : List Int}

/-- Setting the listed bits one after another sets exactly those. -/
theorem foldl_setBit_getLsbD (hl : ∀ n ∈ l, 1 ≤ n ∧ n ≤ 32) (x : BitVec 32) (k : Nat) :
    (l.foldl (fun d n => setBit d (n - 1).toNat true) x).getLsbD k = (x.getLsbD k || decide ((k : Int) + 1 ∈ l)) := by
  induction l generalizing x with
  | nil => simp
  | cons n l ih =>
    have hn := hl n (by simp)
    have hk : (k = (n - 1).toNat ∧ (n - 1).toNat < 32) ↔ (k : Int) + 1 = n := by omega
    rw [List.foldl_cons, ih (fun m hm => hl m (List.mem_cons_of_mem _ hm)), setBit_getLsbD, if_congr hk rfl rfl]
    by_cases he : (k : Int) + 1 = n <;> simp [he]

theorem setDigitals_legal (hl : ∀ n ∈ l, 1 ≤ n ∧ n ≤ 32) (r : SendRegs) :
    SendRegs.setDigitals l r = .ok { r with dout := l.foldl (fun d n => setBit d (n - 1).toNat true) r.dout } := by
  have : l.find? (fun n => decide (n < 1 ∨ 32 < n)) = none := by
    refine List.find?_eq_none.2 fun n hn => ?_
    have := hl n hn
    simp only [decide_eq_true_eq]
    omega
  rw [SendRegs.setDigitals, this]

/-- The first illegal element is the error's operand. -/
theorem setDigitals_illegal {good rest : List Int} {n : Int} (hgood : ∀ m ∈ good, 1 ≤ m ∧ m ≤ 32)
    (hn : n < 1 ∨ 32 < n) (r : SendRegs) :
    SendRegs.setDigitals (good ++ n :: rest) r = .error (rangeError n) := by
  have hnone : good.find? (fun n => decide (n < 1 ∨ 32 < n)) = none := by
    refine List.find?_eq_none.2 fun m hm => ?_
    have := hgood m hm
    simp only [decide_eq_true_eq]
    omega
  have : (good ++ n :: rest).find? (fun n => decide (n < 1 ∨ 32 < n)) = some n := by
    simp only [List.find?_append, hnone, Option.none_or, List.find?_cons, hn, decide_true]
  rw [SendRegs.setDigitals, this]

end

/-- Settles O12: the list is checked whole before the first bit is set. -/
theorem setDigitalOutputsList : Obligations.SetDigitalOutputsList := by
  unfold Obligations.SetDigitalOutputsList
  intro s c l ch h
  refine ⟨fun hl => ⟨{ ch.sf with dout := l.foldl (fun d n => setBit d (n - 1).toNat true) ch.sf.dout }, ?_,
    foldl_setBit_getLsbD hl ch.sf.dout, rfl, rfl, rfl, rfl⟩, ?_⟩
  · rw [setDigitalOutputs, fleetSet_of_ok h (setDigitals_legal hl ch.sf)]
    rfl
  · rintro good n rest rfl hgood hn
    rw [setDigitalOutputs, fleetSet_of_error h (setDigitals_illegal hgood hn ch.sf)]
    rfl

end Sys2Proof.Machine

/-!
PROOFS about the received frame, the refusals of card operations, and the channels' start, stop, ticks and datagrams
(R66 to R69, R102 to R104, R152 to R159, R171 to R187, R271).
-/

namespace Sys2Proof.Machine

/-! ## Bytes of a received frame -/

theorem rxByte_of_getElem? {buf : RxBuffer} {o : Nat} {y : Byte} (h : buf[o]? = some y) : rxByte buf o = y := by
  rw [rxByte, h]
  rfl

/-- Two bytes are read little-endian (R70). -/
theorem memRead_two (buf : RxBuffer) (off : Nat) :
    memRead buf off 2 = (rxByte buf off).toNat + 256 * (rxByte buf (off + 1)).toNat := by
  simp [memRead, Nat.mul_comm]

section
variable {ch : Channel} {buf : RxBuffer} {n : Nat} (hrf : ch.rf = some buf)
include hrf

theorem ofFrame_of_frame (f : RxBuffer → Value) : ofFrame f ch = .okValue (f buf) := by
  simp [ofFrame, hrf]

theorem digitalInput_of_frame (hlo : 1 ≤ n) (hhi : n ≤ 64) : digitalInput n ch = .okValue (.bool (getBit buf 2 n)) := by
  rw [digitalInput, if_neg (by omega), ofFrame_of_frame hrf, Int.toNat_natCast]

theorem analogInput_of_frame (hn : n ≤ 15) :
    analogInput n ch = .okValue (.volts (decodeVolt (memReadSigned buf (16 + 2 * n)))) := by
  rw [analogInput, if_neg (by omega), ofFrame_of_frame hrf, Int.toNat_natCast]

end

/-- The numbers of `activeList` are listed in order, and are those whose bit is set (R104). -/
theorem activeList_pairwise (buf : RxBuffer) (o count : Nat) : (activeList buf o count).Pairwise (· < ·) :=
  ((List.pairwise_lt_range (n := count)).map (· + 1) fun _ _ h => Nat.add_lt_add_right h 1).filter _

theorem mem_activeList {buf : RxBuffer} {o count n : Nat} :
    n ∈ activeList buf o count ↔ 1 ≤ n ∧ n ≤ count ∧ getBit buf o n = true := by
  simp only [activeList, List.mem_filter, List.mem_map, List.mem_range]
  constructor
  · rintro ⟨⟨k, hk, rfl⟩, hb⟩
    exact ⟨by omega, by omega, hb⟩
  · rintro ⟨hlo, hhi, hb⟩
    exact ⟨⟨n - 1, by omega, by omega⟩, hb⟩

/-- Settles O13: a getter answers its field of the last frame. -/
theorem inputGettersReadTheFrame : Obligations.InputGettersReadTheFrame := by
  unfold Obligations.InputGettersReadTheFrame
  intro s c n ch buf h hrf
  refine ⟨fun y hlo hhi hy => ?gdi, fun lo hi q hn hlo hhi hq => ?gai, fun lo hi hlo hhi => ?gts,
    ⟨_, ?gdia, activeList_pairwise buf 2 64, fun n => ?mem⟩⟩
  case gdi =>
    rw [exec_gdi_of_chan h, digitalInput_of_frame hrf hlo hhi, getBit, byteOff, rxByte_of_getElem? hy]
    rfl
  case gai =>
    have hmem : memReadSigned buf (16 + 2 * n) = q.toInt := by
      rw [memReadSigned, memRead_two, rxByte_of_getElem? hlo, show 16 + 2 * n + 1 = 17 + 2 * n by omega,
        rxByte_of_getElem? hhi, ← hq, BitVec.ofNat_toNat, BitVec.setWidth_eq]
    rw [exec_gai_of_chan h, analogInput_of_frame hrf hn, hmem]
    rfl
  case gts =>
    rw [exec_gts_of_chan h, ttlStatus, ofFrame_of_frame hrf, memRead_two, rxByte_of_getElem? hlo,
      rxByte_of_getElem? hhi]
    rfl
  case gdia =>
    rw [exec_gdia_of_chan h, digitalInputsActive, ofFrame_of_frame hrf]
    rfl
  case mem =>
    rw [mem_activeList]
    refine and_congr_right fun hlo => and_congr_right fun hhi => ?_
    have hlt : 2 + (n - 1) / 8 < 64 := by omega
    rw [getBit, byteOff, bitPos, rxByte, Vector.getElem?_eq_getElem hlt]
    simp

/-! ## The decoded frame (R158) -/

section
variable {b b' : RxBuffer}

/-- A 16-bit field determines its two bytes. -/
theorem rxBytes_of_memRead {off : Nat} (h : memRead b off 2 = memRead b' off 2) :
    rxByte b off = rxByte b' off ∧ rxByte b (off + 1) = rxByte b' (off + 1) := by
  rw [memRead_two, memRead_two] at h
  have h1 := (rxByte b off).isLt
  have h2 := (rxByte b' off).isLt
  constructor <;> apply BitVec.eq_of_toNat_eq <;> omega

theorem memRead_of_memReadSigned {off : Nat} (h : memReadSigned b off = memReadSigned b' off) :
    memRead b off 2 = memRead b' off 2 := by
  have hlt (x : RxBuffer) : memRead x off 2 < 2 ^ 16 := by
    have h1 := (rxByte x off).isLt
    have h2 := (rxByte x (off + 1)).isLt
    rw [memRead_two]
    omega
  have := congrArg BitVec.toNat (BitVec.toInt_inj.1 h)
  rwa [BitVec.toNat_ofNat, BitVec.toNat_ofNat, Nat.mod_eq_of_lt (hlt b), Nat.mod_eq_of_lt (hlt b')] at this

/-- The digital inputs are the bits of bytes 2 to 9, so they determine those bytes. -/
theorem rxByte_of_digitalInputs (h : ∀ k < 64, getBit b 2 (k + 1) = getBit b' 2 (k + 1)) {o : Nat} (hlo : 2 ≤ o)
    (hhi : o < 10) : rxByte b o = rxByte b' o := by
  refine BitVec.eq_of_getLsbD_eq fun j hj => ?_
  have hbit := h (8 * (o - 2) + j) (by omega)
  simp only [getBit, byteOff, bitPos, Nat.add_sub_cancel] at hbit
  rwa [show 2 + (8 * (o - 2) + j) / 8 = o by omega, show (8 * (o - 2) + j) % 8 = j by omega] at hbit

/-- Every byte of a frame belongs to the header or to a field of the decoded record. -/
theorem rxByte_of_decodeFrame (hheader : rxHeader b = rxHeader b') (h : decodeFrame b = decodeFrame b') {o : Nat}
    (ho : o < 64) : rxByte b o = rxByte b' o := by
  simp only [decodeFrame, DecodedFrame.mk.injEq, List.map_inj_left, List.mem_range] at h
  simp only [rxHeader, List.map_inj_left, List.mem_range] at hheader
  obtain ⟨hdi, httl, hmrow, hai, htail⟩ := h
  have hpair (k : Nat) (hk : k < 16) := rxBytes_of_memRead (memRead_of_memReadSigned (hai k hk))
  rcases (show o < 2 ∨ (2 ≤ o ∧ o < 10) ∨ o = 10 ∨ o = 11 ∨ (12 ≤ o ∧ o < 16) ∨ (16 ≤ o ∧ o < 48) ∨ 48 ≤ o by omega) with
    ho | ⟨hlo, hhi⟩ | rfl | rfl | ⟨hlo, hhi⟩ | ⟨hlo, hhi⟩ | hlo
  · exact hheader o ho
  · exact rxByte_of_digitalInputs hdi hlo hhi
  · exact (rxBytes_of_memRead httl).1
  · exact (rxBytes_of_memRead httl).2
  · have := hmrow (o - 12) (by omega)
    rwa [Nat.add_sub_of_le hlo] at this
  · rcases Nat.mod_two_eq_zero_or_one o with he | he
    · have := (hpair ((o - 16) / 2) (by omega)).1
      rwa [show 16 + 2 * ((o - 16) / 2) = o by omega] at this
    · have := (hpair ((o - 16) / 2) (by omega)).2
      rwa [show 16 + 2 * ((o - 16) / 2) + 1 = o by omega] at this
  · have := htail (o - 48) (by omega)
    rwa [Nat.add_sub_of_le hlo] at this

theorem rxBuffer_ext (h : ∀ o < 64, rxByte b o = rxByte b' o) : b = b' := by
  refine Vector.ext fun o ho => ?_
  have := h o ho
  rwa [rxByte, rxByte, Vector.getElem?_eq_getElem ho, Vector.getElem?_eq_getElem ho] at this

end

/-- Settles O15: getters and record read the same fields, and header and fields cover the 64 bytes. -/
theorem decodeFrameDeterminesTheBuffer : Obligations.DecodeFrameDeterminesTheBuffer := by
  unfold Obligations.DecodeFrameDeterminesTheBuffer
  refine ⟨fun ch buf hrf => ⟨fun n hlo hhi => ⟨getBit buf 2 n, ?di, digitalInput_of_frame hrf hlo hhi⟩,
    fun n hn => ⟨memReadSigned buf (16 + 2 * n), ?ai, analogInput_of_frame hrf hn⟩, ofFrame_of_frame hrf _⟩,
    fun b b' hheader h => rxBuffer_ext fun o => rxByte_of_decodeFrame hheader h⟩
  case di => simp [decodeFrame, show n - 1 < 64 by omega, show n - 1 + 1 = n by omega]
  case ai => simp [decodeFrame, show n < 16 by omega]

/-! ## Datagrams -/

theorem cardIndex_natCast (c : Nat) : cardIndex c = c - 1 := by
  unfold cardIndex
  omega

theorem takeDatagram_of_wire {e : Env} {c : Nat} {d : Datagram} {rest : List Datagram}
    (h : e.rxWire[c - 1]? = some (d :: rest)) :
    e.takeDatagram c = (d, { e with rxWire := e.rxWire.setIfInBounds (c - 1) rest }) := by
  have hw : e.rxWire[cardIndex c]?.getD [] = d :: rest := by rw [cardIndex_natCast, h]; rfl
  rw [Env.takeDatagram_listed hw, cardIndex_natCast]

theorem exists_rxBuffer {d : Datagram} (h : d.length = 64) : ∃ buf : RxBuffer, buf.toList = d ∧ toRxBuffer d = some buf := by
  cases hb : toRxBuffer d with
  | none => exact absurd h (toRxBuffer_eq_none.1 hb)
  | some buf => exact ⟨buf, toRxBuffer_eq_some.1 hb, rfl⟩

/-- Settles O14: the payload is the oldest datagram on the wire, and its length decides. -/
theorem parseStoresOrRefuses : Obligations.ParseStoresOrRefuses := by
  unfold Obligations.ParseStoresOrRefuses
  intro s c ch d rest h hw
  have hexec : exec (.parse c) s = .next (answer (parseInto c d ch
      (s.setEnv { s.env with rxWire := s.env.rxWire.setIfInBounds (c - 1) rest }))) := by
    change execParse c s = _
    rw [execParse, fleetParse, h]
    simp only [takeDatagram_of_wire hw]
  refine ⟨fun hlen => ?_, fun hlen => ?_⟩
  · obtain ⟨buf, hbuf, hto⟩ := exists_rxBuffer hlen
    refine ⟨buf, hbuf, ?_⟩
    rw [hexec, parseInto, hto]
    rfl
  · rw [hexec, parseInto, toRxBuffer_eq_none.2 hlen]
    rfl

/-! ## Refusals -/

/-- Settles O16: each operation's own check refuses the operand. -/
theorem outOfRangeOperandsRefused : Obligations.OutOfRangeOperandsRefused := by
  unfold Obligations.OutOfRangeOperandsRefused
  intro s c ch h
  refine ⟨fun n b hn => ⟨?sdo, ?gdo⟩, fun n b hn => ⟨?sttl, ?gttl⟩, fun rows cols hr => ?rows, fun rows cols hr hc => ?cols,
    fun n mv hn => ⟨?sao, ?gao⟩, fun n mv hn hmv => ?voltage, fun n hn => ?gdi, fun n hn => ?gai⟩
  case sdo => exact exec_sdo_of_error h (setDigital_illegal ch.sf (by omega) b)
  case gdo => rw [exec_gdo_of_chan h, digitalOutput_illegal ch (by omega)]; rfl
  case sttl => exact exec_sttl_of_error h (setTtl_illegal ch.sf (by omega) b)
  case gttl => rw [exec_gttl_of_chan h, ttlOutput_illegal ch (by omega)]; rfl
  case rows => exact exec_smd_of_error h (setDims_of_rows (by omega) _ _)
  case cols => exact exec_smd_of_error h (setDims_of_cols ch.sf (by omega) (by omega))
  case sao => exact exec_sao_of_refusal h (analogRefusal_of_index (by omega) _)
  case gao => rw [exec_gao_of_chan h, analogOutput_illegal ch (by omega)]; rfl
  case voltage =>
    refine exec_sao_of_refusal h (analogRefusal_of_voltage hn ?_)
    rcases hmv with hmv | hmv
    · have hlt : (mv : Rat) < (-13500 : Int) := Int.cast_lt.2 hmv
      push_cast at hlt
      left; linarith
    · have hlt : ((13500 : Int) : Rat) < mv := Int.cast_lt.2 hmv
      push_cast at hlt
      right; linarith
  case gdi => rw [exec_gdi_of_chan h, digitalInput_of_index (by omega)]; rfl
  case gai => rw [exec_gai_of_chan h, analogInput_of_index (by omega)]; rfl

section
variable {s : State} {c : Int} (h : s.chan c = none)
include h

theorem fleetGet_absent (f : Channel → Response) : fleetGet c f s = .absent := by
  simp [fleetGet, h]

theorem fleetSet_absent (f : SendRegs → Except Err SendRegs) : fleetSet c f s = (.absent, s) := by
  simp [fleetSet, h]

theorem fleetSetAnalog_absent (n : Int) (v : Volts) : fleetSetAnalog c n v s = (.absent, s) := by
  simp [fleetSetAnalog, h, fleetSet_absent h]

theorem fleetParse_absent : fleetParse c s = (.absent, s) := by
  simp [fleetParse, h]

theorem fleetStart_absent : fleetStart c s = (.absent, s) := by
  simp [fleetStart, h]

theorem fleetStop_absent : fleetStop c s = (.absent, s) := by
  simp [fleetStop, h]

end

/-- Every operation of R182 and R187 asks the fleet for its channel first. -/
theorem exec_absent {i : Instr} {s : State} {c : Nat} (hi : i.fleetCard = some c) (h : s.chan c = none) :
    exec i s = .next (s.respond .absent) := by
  cases i
  all_goals cases hi
  case sdo | sttl | smd => simp only [exec, execSdo, execSttl, execSmd, fleetSet_absent h, answer]
  case sao => simp only [exec, execSao, fleetSetAnalog_absent h, answer]
  case gdo | gttl | gmd | gao | enc => simp only [exec, execGdo, execGttl, execGmd, execGao, execEnc, fleetGet_absent h]
  case gdi | gdia | gai | gts | live =>
    simp only [exec, execGdi, execGdia, execGai, execGts, execLive, fleetGet_absent h]
  case parse => simp only [exec, execParse, fleetParse_absent h, answer]
  case start => simp only [exec, execStart, fleetStart_absent h, answer]
  case stop => simp only [exec, execStop, fleetStop_absent h, answer]

/-- Settles O18. -/
theorem unknownCardIsAbsent : Obligations.UnknownCardIsAbsent := by
  unfold Obligations.UnknownCardIsAbsent
  exact ⟨fun i s c hi h => exec_absent hi h, fun s c hc => s.chan_outside (by omega)⟩

/-! ## start, stop and LIVE -/

section
variable {s : State} {c : Nat} {ch : Channel} (h : s.chan c = some ch)
include h

theorem exec_start_of_chan : exec (.start c) s =
    .next ((startChannel c ch s).2.respond (.okValue (.bool (startChannel c ch s).1))) := by
  change execStart c s = _
  rw [execStart, fleetStart, h]
  rfl

theorem exec_stop_of_chan : exec (.stop c) s = .next ((s.setChan c ch.stopped).respond .ok) := by
  change execStop c s = _
  rw [execStop, fleetStop, h]
  rfl

theorem exec_live_of_chan : exec (.live c) s =
    .next (s.respond (.okValue (.bool (communicationActive s.cfg s.env.now ch)))) := by
  change execLive c s = _
  rw [execLive, fleetGet_of_chan h]

end

/-- Stopping a running channel changes its run state only, stopping another nothing (R172). -/
theorem Channel.stopped_eq (ch : Channel) :
    ch.stopped = if ch.run = .running then { ch with run := .stopped } else ch := by
  unfold Channel.stopped
  cases hr : ch.run <;> rfl

/-- A channel is live when a frame was accepted at most `Cfg.commTimeout` ago (R180). -/
theorem communicationActive_iff (cfg : Cfg) (now : Time) (ch : Channel) :
    communicationActive cfg now ch = true ↔ ∃ t, ch.lastRx = some t ∧ now - t ≤ cfg.commTimeout := by
  unfold communicationActive
  cases ch.lastRx <;> simp

/-- Settles O22: the four cases of `start`, the two of `stop`, and what LIVE compares. -/
theorem startStopAndLive : Obligations.StartStopAndLive := by
  unfold Obligations.StartStopAndLive
  intro s c ch h
  rw [exec_start_of_chan h, exec_stop_of_chan h, exec_live_of_chan h, Channel.stopped_eq]
  refine ⟨fun hr => ?running, fun hr => ?ended, fun rest hr hb => ?bound, fun rest hr hb => ?failed, fun hr => ?stop,
    fun hr => ?kept, ⟨_, rfl, communicationActive_iff _ _ _⟩⟩
  case running => simp only [startChannel, hr]; rfl
  case ended => rcases hr with hr | hr <;> simp only [startChannel, hr] <;> rfl
  case bound => simp only [startChannel, hr, Env.drawBind, hb]; rfl
  case failed => simp only [startChannel, hr, Env.drawBind, hb]; rfl
  case stop => rw [if_pos hr]; rfl
  case kept => rw [if_neg hr, State.setChan_self h]; rfl

/-! ## Ticks and datagrams -/

section
variable {s : State} {c : Nat}

theorem exec_tick_of_due {ch : Channel} (h : s.chan c = some ch) (hr : ch.run = .running)
    (hdue : tickDue s.cfg s.env.now ch = true) : exec (.tick c) s = .next (tickChannel c ch s) := by
  change execTick c s = _
  simp only [execTick, fleetTick, h, hr, hdue, true_and, ↓reduceIte]

theorem exec_tick_of_not_enabled
    (h : ∀ ch, s.chan c = some ch → ¬(ch.run = .running ∧ tickDue s.cfg s.env.now ch = true)) :
    exec (.tick c) s = .next s := by
  change execTick c s = _
  rw [execTick, fleetTick]
  split
  · rfl
  · rw [if_neg (h _ ‹_›)]

/-- A tick is due exactly in a new scheduled instant, a period after the tick before (R174). -/
theorem tickDue_iff (cfg : Cfg) (now : Time) (ch : Channel) :
    tickDue cfg now ch = true ↔ ∀ t, ch.lastTick = some t →
      t + cfg.sendPeriod ≤ now ∧ ∀ t0, ch.startedAt = some t0 → tickSlot cfg t0 t < tickSlot cfg t0 now := by
  unfold tickDue
  cases ch.lastTick <;> cases ch.startedAt <;> simp

theorem exec_rx_of_wire {ch : Channel} {d : Datagram} {rest : List Datagram} (h : s.chan c = some ch)
    (hw : s.env.rxWire[c - 1]? = some (d :: rest)) :
    let u := s.setEnv { s.env with rxWire := s.env.rxWire.setIfInBounds (c - 1) rest }
    exec (.rx c) s = .next (if ch.run = .running then receiveDatagram c d ch u else u) := by
  change execRx c s = _
  rw [execRx, fleetRx, h]
  simp only [takeDatagram_of_wire hw]

end

/-- Settles O24: a due tick draws once, and transmits or counts. -/
theorem sendTick : Obligations.SendTick := by
  unfold Obligations.SendTick
  intro s c ch rest h hr hdue
  rw [exec_tick_of_due h hr ((tickDue_iff _ _ _).2 hdue)]
  refine ⟨rfl, fun hs => ?_, fun hs => ?_⟩
  · simp only [tickChannel, Env.drawSend, hs, Env.transmit, cardIndex_natCast]
    rfl
  · simp only [tickChannel, Env.drawSend, hs]
    rfl

/-- Settles O25: the length of the oldest datagram decides. -/
theorem receiveEvent : Obligations.ReceiveEvent := by
  unfold Obligations.ReceiveEvent
  intro s c ch d rest h hr hw
  rw [exec_rx_of_wire h hw, if_pos hr]
  refine ⟨fun hlen => ?_, fun hlen => ?_⟩
  · obtain ⟨buf, hbuf, hto⟩ := exists_rxBuffer hlen
    refine ⟨buf, hbuf, ?_⟩
    rw [receiveDatagram, hto]
    rfl
  · rw [receiveDatagram, toRxBuffer_eq_none.2 hlen]
    rfl

/-- Settles O26: a tick needs a running channel whose tick is due, a datagram a running channel. -/
theorem eventsThatAreNotEnabled : Obligations.EventsThatAreNotEnabled := by
  unfold Obligations.EventsThatAreNotEnabled
  intro s c
  refine ⟨rfl, fun h => ⟨exec_tick_of_not_enabled fun ch hch => ?absentTick, ?absentRx⟩,
    fun ch h hr => ⟨exec_tick_of_not_enabled fun ch' hch => ?stoppedTick, fun d rest hw => ?lost⟩,
    fun ch t t0 h ht hearly => exec_tick_of_not_enabled fun ch' hch => ?notDue⟩
  case absentTick => simp [h] at hch
  case absentRx =>
    change execRx c s = _
    rw [execRx, fleetRx, h]
  case stoppedTick =>
    obtain rfl := Option.some.inj (h.symm.trans hch)
    exact fun hrun => hr hrun.1
  case lost =>
    rw [exec_rx_of_wire h hw, if_neg hr]
    rfl
  case notDue =>
    obtain rfl := Option.some.inj (h.symm.trans hch)
    rintro ⟨-, hdue⟩
    obtain ⟨hperiod, hslot⟩ := (tickDue_iff _ _ _).1 hdue t ht
    rcases hearly with hnow | ⟨ht0, hsame⟩
    · exact absurd hperiod (not_le.2 hnow)
    · exact absurd (hslot t0 ht0) (not_lt.2 hsame)

end Sys2Proof.Machine

/-!
PROOFS about the facade, the control lines and the requests to the engine (R36, R78, R201 to R208, R220, R260 to R266,
R277, R313).
-/

namespace Sys2Proof.Machine

/-! ## Facade calls -/

/-- A write the facade lets fail (R277). -/
theorem digitalWrite_failed {s : State} {rest : List Bool} (hc : s.facadeClosed = false)
    (hw : s.env.writes = false :: rest) (p : FacadePin) (l : Bool) :
    digitalWrite p l s = (false,
      { s with
        pins := Memory.erase p s.pins
        env := { s.env with writes := rest }
        facade := .dw s.env.now p l false :: s.facade }) := by
  simp [digitalWrite, hc, Env.drawWrite, hw, State.setEnv, State.setPins, State.call]

/-- Settles O31: the frames of the two calls, and where their answers come from. -/
theorem facadeCalls : Obligations.FacadeCalls := by
  unfold Obligations.FacadeCalls
  intro s pin level
  obtain ⟨hwrite, -, hwf⟩ := digitalWrite_frame pin level s
  obtain ⟨hread, -, hpins⟩ := analogRead_frame pin s
  refine ⟨digitalWrite_fp pin level s, fun q => ?fp, hwrite, hread, hwf, fun b rest hc hw => ?drawn,
    fun v rest hc hr => ?answer, fun hc => ?closed⟩
  case fp => rw [State.fp, hpins, State.fp]
  case drawn => simp [digitalWrite, hc, Env.drawWrite, hw]
  case answer => rw [analogRead_listed hc hr]
  case closed => exact ⟨by simp [digitalWrite, hc], by simp [analogRead, hc]⟩

/-! ## Requests of an idle and of a busy engine (R313) -/

theorem whenIdle_idle {s : State} (h : s.busy = false) (t : State) : whenIdle s t = t := by simp [whenIdle, h]

theorem whenIdle_busy {s : State} (h : s.busy = true) (t : State) : whenIdle s t = s.respond .refused := by
  simp [whenIdle, h]

/-- Every engine-side request is one that `whenIdle` guards. -/
theorem exec_engineSide {i : Instr} (h : i.engineSide = true) (s : State) : ∃ t, exec i s = .next (whenIdle s t) := by
  cases i
  case lookup | route | clrall | clrbits | pwr | pup | lgc | sct | rft | runseq | close => exact ⟨_, rfl⟩
  all_goals cases h

/-- Settles O32. -/
theorem engineRequestsRefusedWhileBusy : Obligations.EngineRequestsRefusedWhileBusy := by
  unfold Obligations.EngineRequestsRefusedWhileBusy
  intro i s hb hi
  obtain ⟨t, ht⟩ := exec_engineSide hi s
  rw [ht, whenIdle_busy hb]
  rfl

section
variable {s : State} (h : s.busy = false)
include h

theorem exec_lookup_idle (pin : Nat) (sch : Scheme) :
    exec (.lookup pin sch) s = .next (s.respond (lookupResponse s.cfg pin sch)) :=
  congrArg Host.Outcome.next (whenIdle_idle h _)

theorem exec_route_idle (pin : Nat) (sch : Scheme) :
    exec (.route pin sch) s = .next (routerAnswer (routePin pin sch s)) :=
  congrArg Host.Outcome.next (whenIdle_idle h _)

theorem exec_clrall_idle : exec .clrall s = .next (routerAnswer (clearAllLines s)) :=
  congrArg Host.Outcome.next (whenIdle_idle h _)

theorem exec_clrbits_idle (p : Pattern) : exec (.clrbits p) s = .next (routerAnswer (clearBitLines p s)) :=
  congrArg Host.Outcome.next (whenIdle_idle h _)

end

/-! ## The lookup (R201, R203) -/

theorem lookupPattern_illegal {cfg : Cfg} {pin : Nat} (h : pin = 0 ∨ 50 < pin) (sch : Scheme) :
    lookupPattern cfg pin sch = .error (rangeError pin) := dif_neg (by omega)

/-- Settles O27: a legal pin has its table's entry, any other pin none. -/
theorem lookupAndIllegalPins : Obligations.LookupAndIllegalPins := by
  unfold Obligations.LookupAndIllegalPins
  intro s pin sch hb
  refine ⟨fun hvalid => ⟨s.cfg.tableA[16], s.cfg.tableB[16], hvalid.1, exec_lookup_idle hb 17 .A,
    exec_lookup_idle hb 17 .B⟩, fun p hlo ht => ?entry, fun hpin => ⟨?lookup, ?route⟩⟩
  case entry =>
    rw [exec_lookup_idle hb, lookupResponse, lookupPattern_entry hlo ht]
    rfl
  case lookup =>
    rw [exec_lookup_idle hb, lookupResponse, lookupPattern_illegal hpin]
    rfl
  case route =>
    rw [exec_route_idle hb, routePin, lookupPattern_illegal hpin]
    rfl

/-! ## Control lines (R78, R204 to R208) -/

theorem mem_patternLines {p : Pattern} {i : Fin 16} : i ∈ patternLines p ↔ p.getLsbD i = true := by
  simp [patternLines]

/-- Different lines are behind different pins, so a line's pin is driven only for its own bit (R9). -/
theorem linePin_mem_linePins {cfg : Cfg} (hnodup : cfg.linePin.toList.Nodup) {p : Pattern} {i : Fin 16} :
    cfg.linePin[i] ∈ linePins cfg p ↔ p.getLsbD i = true := by
  rw [linePins, List.mem_map]
  constructor
  · rintro ⟨j, hj, he⟩
    have hij : j.val = i.val := by
      refine (List.Nodup.getElem_inj_iff hnodup (hi := by simp) (hj := by simp)).1 ?_
      simpa using he
    rw [← Fin.ext hij]
    exact mem_patternLines.1 hj
  · exact fun h => ⟨i, mem_patternLines.2 h, rfl⟩

theorem line_mem_linePin (cfg : Cfg) (i : Fin 16) : cfg.linePin[i] ∈ cfg.linePin.toList := by
  rw [Vector.mem_toList_iff]
  exact Vector.getElem_mem _

theorem clearBitLines_good {p : Pattern} {s : State} (hw : s.writesSucceed (patternLines p).length) :
    clearBitLines p s = (none, s.wrote false (linePins s.cfg p)) := driveLines_good _ _ hw

/-- The state after a router operation that wrote these pins. -/
theorem routerAnswer_wrote (s : State) (level : Bool) (ps : List FacadePin) :
    routerAnswer (none, s.wrote level ps) = (s.wrote level ps).respond .ok := rfl

/-- Settles O28: a route writes its lines HIGH, and so does the next one over it. -/
theorem routeDrivesTheHighLines : Obligations.RouteDrivesTheHighLines := by
  unfold Obligations.RouteDrivesTheHighLines
  refine ⟨fun s pin sch p hb hpin ht hw =>
      ⟨(s.wrote true (linePins s.cfg p)).respond .ok, ?_, State.wrote_fp s true (linePins s.cfg p), ?_⟩,
    fun s pin pin' sch sch' p p' hb hnodup hpin hpin' ht ht' hw => ?_⟩
  · rw [exec_route_idle hb, routePin_good hpin ht hw]
    rfl
  · rw [State.wrote, linePins_length]
    rfl
  · obtain ⟨hw1, hw2⟩ := State.writesSucceed_split hw true (linePins s.cfg p) (linePins_length _ _)
    let t := (s.wrote true (linePins s.cfg p)).respond .ok
    have hfp (q : FacadePin) : t.fp q = if q ∈ linePins s.cfg p then some true else s.fp q := State.wrote_fp _ _ _ _
    have hfp' (q : FacadePin) : ((t.wrote true (linePins s.cfg p')).respond .ok).fp q =
        if q ∈ linePins s.cfg p' then some true else t.fp q := State.wrote_fp _ _ _ _
    refine ⟨t, (t.wrote true (linePins s.cfg p')).respond .ok, ?_, ?_, fun i => ?_, fun hp hs q => ?_⟩
    · rw [exec_route_idle hb, routePin_good hpin ht hw1]
      rfl
    · rw [exec_route_idle (s := t) hb, routePin_good (s := t) hpin' ht' hw2]
      rfl
    · have hi := linePin_mem_linePins hnodup (p := p) (i := i)
      have hi' := linePin_mem_linePins hnodup (p := p') (i := i)
      change ((t.wrote true (linePins s.cfg p')).respond .ok).fp s.cfg.linePin[i] = _
      rw [hfp', hfp, State.line, if_congr hi' rfl (if_congr hi rfl rfl)]
      cases p.getLsbD i <;> cases p'.getLsbD i <;> rfl
    · subst hp hs
      obtain rfl := Option.some.inj (ht.symm.trans ht')
      rw [hfp', hfp]
      split <;> rfl

/-- All 16 lines (R78). -/
theorem patternLines_all : patternLines 0xFFFF#16 = List.finRange 16 := by decide

/-- Settles O29: a clear writes its lines LOW. -/
theorem clearsDriveTheLinesLow : Obligations.ClearsDriveTheLinesLow := by
  unfold Obligations.ClearsDriveTheLinesLow
  refine ⟨fun s hb hw => ?clrall, fun s p hb hw => ?clrbits, fun s => ?all⟩
  case clrall =>
    have hfp (q : FacadePin) := State.wrote_fp s false s.cfg.linePin.toList q
    refine ⟨(s.wrote false s.cfg.linePin.toList).respond .ok, ?_,
      fun i => (hfp _).trans (if_pos (line_mem_linePin s.cfg i)), fun q hq => (hfp q).trans (if_neg hq), ?_⟩
    · rw [exec_clrall_idle hb, clearAllLines_good hw]
      rfl
    · rw [State.wrote, Vector.length_toList]
      rfl
  case clrbits =>
    refine ⟨(s.wrote false (linePins s.cfg p)).respond .ok, ?_, State.wrote_fp s false (linePins s.cfg p), ?_⟩
    · rw [exec_clrbits_idle hb, clearBitLines_good hw]
      rfl
    · rw [State.wrote, linePins_length]
      rfl
  case all =>
    change Host.Outcome.next (whenIdle s (routerAnswer (clearBitLines _ s))) = _
    rw [clearBitLines, patternLines_all]
    rfl

/-- A run of writes that succeeds up to line `i`, whose write fails (R208). -/
theorem driveLines_fails {s : State} {before after : List (Fin 16)} {i : Fin 16} {rest : List Bool}
    (hc : s.facadeClosed = false) (hw : s.env.writes = List.replicate before.length true ++ false :: rest)
    (level : Bool) : ∃ t, driveLines level (before ++ i :: after) s = (some (lineError i.val), t) ∧
      StoppedAtLine level before i rest s (t.respond (.error (lineError i.val))) := by
  have hgood : s.writesSucceed before.length := ⟨hc, by rw [hw]; exact List.take_left' (by simp)⟩
  have hbefore := driveLines_good level before hgood
  let u := s.wrote level (before.map fun j => s.cfg.linePin[j])
  have hfail := digitalWrite_failed (s := u) (rest := rest) hc (by simp [u, State.wrote, hw]) s.cfg.linePin[i] level
  have hno : ¬(digitalWrite s.cfg.linePin[i] level u).1 = true := by rw [hfail]; exact Bool.false_ne_true
  refine ⟨(digitalWrite s.cfg.linePin[i] level u).2, ?_, fun q => ?_, ?_⟩
  · rw [driveLines_append _ _ _ _ (by rw [hbefore]), hbefore]
    exact if_neg hno
  · exact (digitalWrite_fp _ _ u q).trans (if_congr Iff.rfl (if_neg hno) (State.wrote_fp s level _ q))
  · rw [hfail]
    rfl

/-- Settles O30: each operation is one run of writes. -/
theorem routerStopsAtTheFailingLine : Obligations.RouterStopsAtTheFailingLine := by
  unfold Obligations.RouterStopsAtTheFailingLine
  intro s before after i rest hb hc hw
  refine ⟨fun pin sch p hpin ht hp => ?route, fun hall => ?clrall, fun p hp => ?clrbits⟩
  case route =>
    obtain ⟨t, ht', hstop⟩ := driveLines_fails (after := after) (i := i) hc hw true
    refine ⟨_, ?_, hstop⟩
    rw [exec_route_idle hb, routePin, lookupPattern_entry hpin ht]
    simp only [hp, ht']
    rfl
  case clrall =>
    obtain ⟨t, ht', hstop⟩ := driveLines_fails (after := after) (i := i) hc hw false
    refine ⟨_, ?_, hstop⟩
    rw [exec_clrall_idle hb, clearAllLines, hall, ht']
    rfl
  case clrbits =>
    obtain ⟨t, ht', hstop⟩ := driveLines_fails (after := after) (i := i) hc hw false
    refine ⟨_, ?_, hstop⟩
    rw [exec_clrbits_idle hb, clearBitLines, hp, ht']
    rfl

/-! ## Requests of checks -/

/-- What a request of a subject's check does in an idle engine (R220, R262). -/
theorem requestCheck_idle {s : State} (h : s.busy = false) (p : Phase) (k : Nat) :
    requestCheck p k s = match s.subj[k]? with
      | none => s.respond (noSubjectResponse k)
      | some sub =>
        if eligible s.cfg p sub then s.beginCheck { phase := p, idx := k, step := 1 } .idle
        else (s.emit (.skipped p k)).respond (.okValue .skipped) := whenIdle_idle h _

theorem powerPassed_iff {p : Volts → Bool} {sub : Subject} : powerPassed p sub = true ↔
    sub.powerResult = .pass ∧ ∃ v, sub.powerMeasured = some v ∧ p v = true := by
  unfold powerPassed
  cases sub.powerMeasured <;> simp

/-- A PullUpTest needs a PowerTest passed near zero (R261). -/
theorem eligible_pullUp_iff {cfg : Cfg} {sub : Subject} : eligible cfg .pullUp sub = true ↔
    sub.powerResult = .pass ∧ ∃ v, sub.powerMeasured = some v ∧ absRat v ≤ cfg.tol := by
  simp only [eligible, eligiblePullUp, powerPassed_iff, nearZero, decide_eq_true_eq]

/-- A LogicTest needs a PowerTest passed with a low voltage (R261). -/
theorem eligible_logic_iff {cfg : Cfg} {sub : Subject} : eligible cfg .logic sub = true ↔
    sub.powerResult = .pass ∧ ∃ v, sub.powerMeasured = some v ∧ v ≤ cfg.lowThreshold := by
  simp only [eligible, eligibleLogic, powerPassed_iff, low, decide_eq_true_eq]

section
variable {s : State} {k : Nat} {sub : Subject} {p : Phase} (hb : s.busy = false) (hk : s.subj[k]? = some sub)
include hb hk

theorem requestCheck_eligible (he : eligible s.cfg p sub = true) :
    requestCheck p k s = s.beginCheck { phase := p, idx := k, step := 1 } .idle := by
  simp only [requestCheck_idle hb, hk, he, if_true]

theorem requestCheck_ineligible (he : ¬ eligible s.cfg p sub = true) :
    requestCheck p k s = (s.emit (.skipped p k)).respond (.okValue .skipped) := by
  simp only [requestCheck_idle hb, hk, if_neg he]

end

/-- Settles O33: an idle engine begins what is requested. -/
theorem checkRequestsBegin : Obligations.CheckRequestsBegin := by
  unfold Obligations.CheckRequestsBegin
  intro s hb
  have hidle (t : State) : (Host.Outcome.next (whenIdle s t) : Host.Outcome State Fault Refusal) = .next t :=
    congrArg Host.Outcome.next (whenIdle_idle hb t)
  refine ⟨fun k sub hk => ⟨?pwr, fun v hr hm hv => ?pup, fun v hr hm hv => ?lgc⟩, hidle _, fun ka kb => hidle _, hidle _⟩
  case pwr => exact congrArg Host.Outcome.next (requestCheck_eligible (p := .power) hb hk rfl)
  case pup => exact congrArg Host.Outcome.next (requestCheck_eligible hb hk (eligible_pullUp_iff.2 ⟨hr, v, hm, hv⟩))
  case lgc => exact congrArg Host.Outcome.next (requestCheck_eligible hb hk (eligible_logic_iff.2 ⟨hr, v, hm, hv⟩))

/-- A PowerTest that did not pass, or measured no voltage or one that fails `q`, meets no prerequisite. -/
theorem not_passed_of_exceeds {sub : Subject} {q q' : Volts → Prop} (hq : ∀ v, q' v → ¬ q v)
    (h : sub.powerResult ≠ .pass ∨ sub.powerMeasured = none ∨ ∃ v, sub.powerMeasured = some v ∧ q' v) :
    ¬(sub.powerResult = .pass ∧ ∃ v, sub.powerMeasured = some v ∧ q v) := by
  rintro ⟨hr, v, hv, hqv⟩
  rcases h with h | h | ⟨v', hv', hqv'⟩
  · exact h hr
  · simp [hv] at h
  · obtain rfl := Option.some.inj (hv.symm.trans hv')
    exact hq v hqv' hqv

theorem noSubjectResponse_cases (k : Nat) : noSubjectResponse k = .absent ∨ noSubjectResponse k = .refused ∨
    noSubjectResponse k = .okValue (.check { measured := .none, pass := false, reason := .outOfRange }) := by
  unfold noSubjectResponse
  cases Config.noSubject k <;> simp

/-- Settles O34: the prerequisites of R261 fail, or there is no subject to check. -/
theorem ineligibleChecksAreSkipped : Obligations.IneligibleChecksAreSkipped := by
  unfold Obligations.IneligibleChecksAreSkipped
  intro s k hb
  refine ⟨fun sub hk => ⟨fun h => ?pup, fun h => ?lgc⟩, fun hk => ⟨_, noSubjectResponse_cases k, ?_⟩⟩
  case pup =>
    have he : ¬ eligible s.cfg .pullUp sub = true := fun he =>
      not_passed_of_exceeds (fun v => not_le.2) h (eligible_pullUp_iff.1 he)
    exact congrArg Host.Outcome.next (requestCheck_ineligible hb hk he)
  case lgc =>
    have he : ¬ eligible s.cfg .logic sub = true := fun he =>
      not_passed_of_exceeds (fun v => not_le.2) h (eligible_logic_iff.1 he)
    exact congrArg Host.Outcome.next (requestCheck_ineligible hb hk he)
  · have hnone (p : Phase) : requestCheck p k s = s.respond (noSubjectResponse k) := by
      simp only [requestCheck_idle hb, hk]
    exact ⟨congrArg Host.Outcome.next (hnone .power), congrArg Host.Outcome.next (hnone .pullUp),
      congrArg Host.Outcome.next (hnone .logic)⟩

/-- Settles O35. -/
theorem stopRequestAndClose : Obligations.StopRequestAndClose := by
  unfold Obligations.StopRequestAndClose
  exact fun s => ⟨rfl, fun hb => congrArg Host.Outcome.next (whenIdle_idle hb _)⟩

end Sys2Proof.Machine

/-!
PROOFS about directives: the grammars of their strings, the stimulus they apply and the verify step after it (R111 to
R114, R157, R192, R221 to R225).
-/

namespace Sys2Proof.Machine

/-! ## Applying a stimulus (R222) -/

section
variable {spec : Stimulus} (v : Int) (s : State)

theorem applyStimulus_AO (hk : spec.kind = .AO) : applyStimulus spec v s =
    (stimulusFailure (fleetSetAnalog spec.card spec.number v s).1, (fleetSetAnalog spec.card spec.number v s).2) := by
  simp only [applyStimulus, hk]

theorem applyStimulus_DO {v : Int} (hk : spec.kind = .DO) (hv : v = 0 ∨ v = 1) : applyStimulus spec v s =
    (stimulusFailure (fleetSet spec.card (SendRegs.setDigital spec.number (decide (v = 1))) s).1,
      (fleetSet spec.card (SendRegs.setDigital spec.number (decide (v = 1))) s).2) := by
  simp only [applyStimulus, hk, if_pos hv]

end

/-- A whole number of volts up to 13 is stored unclamped (R107, R222). -/
theorem encodeVolt_volts {v : Int} (hlo : -13 ≤ v) (hhi : v ≤ 13) (tie : RoundTie) (up : Bool) :
    encodeVolt tie up v = roundRat tie up (rawUnits v) := by
  have hlo' : ((-13 : Int) : Rat) ≤ v := Int.cast_le.2 hlo
  have hhi' : (v : Rat) ≤ (13 : Int) := Int.cast_le.2 hhi
  push_cast at hlo' hhi'
  rcases encodeVolt_legal (tie := tie) (up := up) (v := (v : Rat)) (by linarith) (by linarith) with ⟨-, -, he⟩ | ⟨hr, -⟩
  · exact he
  · have hnear := abs_le.1 (roundRat_near tie up (rawUnits v))
    rw [hr, rawUnits] at hnear
    push_cast at hnear
    linarith

/-- Settles O47: a level goes through `setDigital`, a voltage through `setAnalog`, and the card is looked up before
either checks. -/
theorem stimulusIsAppliedOrFails : Obligations.StimulusIsAppliedOrFails := by
  unfold Obligations.StimulusIsAppliedOrFails
  intro s spec v
  refine ⟨fun hk h0 h1 => ?badValue, fun h hkind => ?cardAbsent, fun ch h => ⟨fun hk hv hn => ?illegalDO, fun hk hout => ?illegalAO,
    fun hk hv hlo hhi => ?legalDO, fun hk hn hlo hhi => ?legalAO⟩⟩
  case badValue => simp only [applyStimulus, hk, if_neg (not_or.2 ⟨h0, h1⟩)]
  case cardAbsent =>
    cases hk : spec.kind with
    | AO =>
      rw [applyStimulus_AO v s hk, fleetSetAnalog_absent h]
      rfl
    | DO =>
      rw [applyStimulus_DO s hk (hkind.resolve_left (by simp [hk])), fleetSet_absent h]
      rfl
  case illegalDO =>
    rw [applyStimulus_DO s hk hv, fleetSet_of_error h (setDigital_illegal ch.sf (by omega) _)]
    rfl
  case illegalAO =>
    have hrefusal : ∃ e, analogRefusal spec.number (v : Rat) = some e := by
      by_cases hn : 7 < spec.number
      · exact ⟨_, analogRefusal_of_index (by omega) _⟩
      · refine ⟨_, analogRefusal_of_voltage (by omega) ?_⟩
        rcases hout.resolve_left hn with hv | hv
        · have hle : (v : Rat) ≤ (-14 : Int) := Int.cast_le.2 (by omega)
          push_cast at hle
          left; linarith
        · have hle : ((14 : Int) : Rat) ≤ v := Int.cast_le.2 (by omega)
          push_cast at hle
          right; linarith
    obtain ⟨e, he⟩ := hrefusal
    rw [applyStimulus_AO v s hk, fleetSetAnalog_of_refusal h he]
    rfl
  case legalDO =>
    refine ⟨{ ch.sf with dout := setBit ch.sf.dout (spec.number - 1) (decide (v = 1)) }, ?_, fun k => ?_,
      rfl, rfl, rfl, rfl⟩
    · rw [applyStimulus_DO s hk hv, fleetSet_of_ok h (setDigital_legal ch.sf hlo hhi _)]
      rfl
    · simp [setBit_getLsbD, show spec.number - 1 < 32 by omega]
  case legalAO =>
    have hlo' : ((-13 : Int) : Rat) ≤ v := Int.cast_le.2 hlo
    have hhi' : (v : Rat) ≤ (13 : Int) := Int.cast_le.2 hhi
    push_cast at hlo' hhi'
    have hset := setAnalog_legal ch.sf (v := v) hn (by linarith) (by linarith) s.cfg.roundTie false
    obtain ⟨hself, hother⟩ := analog_setIfInBounds ch.sf.ao hn
      (BitVec.ofInt 16 (encodeVolt s.cfg.roundTie false v))
    refine ⟨_, { ch.sf with ao := ch.sf.ao.setIfInBounds spec.number _ }, ?_, ?_, hself, hother, rfl, rfl, rfl, rfl⟩
    · rw [applyStimulus_AO v s hk, fleetSetAnalog_of_not_tie (isTie_volts v), fleetSet_of_ok h hset]
      rfl
    · rw [toInt_ofInt_encodeVolt]
      exact abs_decode_encode_le (encodeVolt_volts hlo hhi _ _)

/-! ## The verify step (R192, R224) -/

section
variable {s : State} {spec : Stimulus} {ch : Channel} (h : s.chan spec.card = some ch)
include h

theorem waitFresh_of_chan : waitFresh spec.card s =
    if freshBy s.work.t0 s.work.deadline ch then some true
    else if s.work.deadline ≤ s.env.now then some false else none := by
  simp only [waitFresh, h]

/-- Once a fresh frame has come the comparison decides. -/
theorem verifyPoll_fresh (hf : freshBy s.work.t0 s.work.deadline ch = true) (want : Int) :
    verifyPoll spec want s = some (readBackMatches spec want s) := by
  simp only [verifyPoll, waitFresh_of_chan h, if_pos hf, Option.map_some, Bool.true_and]

theorem readBackMatches_AO (hk : spec.kind = .AO) (hrb : s.cfg.readBack = .localGetter) (want : Int) :
    readBackMatches spec want s =
      match analogOutput spec.number ch with
      | .okValue (.volts v) => within s.cfg v want
      | _ => false := by
  simp only [readBackMatches, hk, readBackVolts, hrb, fleetGet_of_chan h]
  cases analogOutput spec.number ch with
  | okValue v => cases v <;> rfl
  | ok | absent | refused | error e => rfl

theorem readBackMatches_DO (hk : spec.kind = .DO) (hrb : s.cfg.readBack = .localGetter) (want : Int) :
    readBackMatches spec want s =
      match digitalOutput spec.number ch with
      | .okValue (.bool b) => decide (b = decide (want = 1))
      | _ => false := by
  simp only [readBackMatches, hk, readBackLevel, hrb, fleetGet_of_chan h]
  cases digitalOutput spec.number ch with
  | okValue v => cases v <;> rfl
  | ok | absent | refused | error e => rfl

end

/-- The fields a read-back sees do not read the header, MROW or TAIL (R157). -/
theorem inputFields_congr {b b' : RxBuffer}
    (h : ∀ k : Nat, 2 ≤ k ∧ k < 12 ∨ 16 ≤ k ∧ k < 48 → b[k]? = b'[k]?) : inputFields b = inputFields b' := by
  have hbyte (k : Nat) (hk : 2 ≤ k ∧ k < 12 ∨ 16 ≤ k ∧ k < 48) : rxByte b k = rxByte b' k := by rw [rxByte, rxByte, h k hk]
  have hdi : (decodeFrame b).di = (decodeFrame b').di := by
    simp only [decodeFrame, List.map_inj_left, List.mem_range]
    intro k hk
    rw [getBit, getBit, byteOff, hbyte _ (by omega)]
  have httl : (decodeFrame b).ttlStatus = (decodeFrame b').ttlStatus :=
    memRead_congr fun j hj => hbyte _ (by omega)
  have hai : (decodeFrame b).ai = (decodeFrame b').ai := by
    simp only [decodeFrame, List.map_inj_left, List.mem_range]
    intro k hk
    rw [memReadSigned, memReadSigned, memRead_congr fun j hj => hbyte _ (by omega)]
  simp only [inputFields, hdi, httl, hai]

/-- A verify step sees of a channel its registers, the times of its frames and the fields of the last one. -/
theorem verifyPoll_congr {s t : State} {spec : Stimulus} {ch ch' : Channel} (want : Int) (h : s.chan spec.card = some ch)
    (h' : t.chan spec.card = some ch') (hcfg : t.cfg = s.cfg) (hwork : t.work = s.work) (henv : t.env = s.env)
    (hsf : ch'.sf = ch.sf) (htimes : ch'.rxTimes = ch.rxTimes) (hrf : ch'.rf.map inputFields = ch.rf.map inputFields) :
    verifyPoll spec want t = verifyPoll spec want s := by
  have hanalog (n : Int) : analogOutput n ch' = analogOutput n ch := by simp only [analogOutput, hsf]
  have hdigital (n : Int) : digitalOutput n ch' = digitalOutput n ch := by simp only [digitalOutput, hsf]
  have hwait : waitFresh spec.card t = waitFresh spec.card s := by
    rw [waitFresh_of_chan h, waitFresh_of_chan h', freshBy, freshBy, htimes, hwork, henv]
  have hmatch : readBackMatches spec want t = readBackMatches spec want s := by
    simp only [readBackMatches, readBackVolts, readBackLevel, fleetGet, receivedFields, h, h', hcfg, hanalog, hdigital,
      Option.bind_some, hrf]
  rw [verifyPoll, verifyPoll, hwait, hmatch]

/-- Settles O48: the cases of `waitFresh`, then the comparison with the card's own register. -/
theorem verifyStepWaitsForAFreshFrame : Obligations.VerifyStepWaitsForAFreshFrame := by
  unfold Obligations.VerifyStepWaitsForAFreshFrame
  intro s spec want
  refine ⟨fun h => ?absent, fun ch h => ⟨fun hstale => ?stale, fun t ht hlo hhi hrb => ?fresh⟩,
    fun ch b b' h hrf hbytes => ?opaqueBytes⟩
  case absent => simp [verifyPoll, waitFresh, h]
  case stale =>
    have hf : ¬ freshBy s.work.t0 s.work.deadline ch = true := by
      rw [freshBy_iff]
      rintro ⟨t, ht, hlo, hhi⟩
      rcases hstale t ht with hle | hgt
      · exact absurd hlo (not_lt.2 hle)
      · exact absurd hhi (not_le.2 hgt)
    rw [verifyPoll, waitFresh_of_chan h, if_neg hf]
    exact ⟨fun hnow => by rw [if_neg (not_le.2 hnow)]; rfl, fun hnow => by rw [if_pos hnow]; rfl⟩
  case fresh =>
    rw [verifyPoll_fresh h ((freshBy_iff _ _ _).2 ⟨t, ht, hlo, hhi⟩)]
    refine ⟨fun q hk hq => ?_, fun hk hlo hhi => ?_, ?_⟩
    · rw [readBackMatches_AO h hk hrb, analogOutput_legal ch hq]
      rfl
    · rw [readBackMatches_DO h hk hrb, digitalOutput_legal ch hlo hhi]
    · rintro (⟨hk, hn⟩ | ⟨hk, hn⟩)
      · rw [readBackMatches_AO h hk hrb, analogOutput_illegal ch (by omega)]
      · rw [readBackMatches_DO h hk hrb, digitalOutput_illegal ch (by omega)]
  case opaqueBytes =>
    refine verifyPoll_congr want h (s.chan_setChan (State.chan_bounds h) _ _ |>.trans (if_pos rfl)) rfl rfl rfl rfl rfl ?_
    rw [hrf, Option.map_some, Option.map_some, inputFields_congr hbytes]

/-! ## The grammars (R111 to R114) -/

/-- No digit comes next: the digits before it are all there are. -/
def endsDigits (r : Text) : Prop := ∀ c ∈ r.head?, isDigit c = false

theorem spanDigits_append {d r : Text} (hd : ∀ c ∈ d, isDigit c = true) (hr : endsDigits r) :
    spanDigits (d ++ r) = (d, r) := by
  induction d with
  | nil =>
    cases r with
    | nil => rfl
    | cons c r => simp [spanDigits, hr c (by simp)]
  | cons c d ih => simp [spanDigits, hd c (by simp), ih fun x hx => hd x (List.mem_cons_of_mem _ hx)]

theorem spanDigits_spec (t : Text) : t = (spanDigits t).1 ++ (spanDigits t).2 ∧
    (∀ c ∈ (spanDigits t).1, isDigit c = true) ∧ endsDigits (spanDigits t).2 := by
  induction t with
  | nil => simp [spanDigits, endsDigits]
  | cons c t ih =>
    obtain ⟨happ, hdigits, hend⟩ := ih
    by_cases hc : isDigit c = true
    · simp only [spanDigits, hc, if_true, List.cons_append, ← happ, List.forall_mem_cons, true_and]
      exact ⟨hdigits, hend⟩
    · simp [spanDigits, endsDigits, hc]

/-- `<int>` takes all the digits there are, at least one (R111). -/
theorem parseInt_iff {t r : Text} {n : Nat} :
    parseInt t = some (n, r) ↔ ∃ d, isDecimal d n ∧ t = d ++ r ∧ endsDigits r := by
  constructor
  · intro h
    obtain ⟨happ, hdigits, hend⟩ := spanDigits_spec t
    unfold parseInt at h
    split at h
    · simp at h
    · rename_i c d r' he
      rw [he] at happ hdigits hend
      simp only [Option.some.injEq, Prod.mk.injEq] at h
      obtain ⟨rfl, rfl⟩ := h
      exact ⟨c :: d, ⟨by simp, hdigits, rfl⟩, happ, hend⟩
  · rintro ⟨d, ⟨hne, hdigits, rfl⟩, rfl, hend⟩
    rw [parseInt, spanDigits_append hdigits hend]
    cases d with
    | nil => exact absurd rfl hne
    | cons c d => rfl

theorem isDigit_minus : isDigit '-' = false := by decide

/-- `<sint>` has at most one minus sign, before the digits (R111). -/
theorem parseSint_iff {t r : Text} {v : Int} : parseSint t = some (v, r) ↔
    ∃ (neg : Bool) (d : Text) (m : Nat), isDecimal d m ∧ v = (if neg then -(m : Int) else m) ∧
      t = (if neg then ['-'] else []) ++ d ++ r ∧ endsDigits r := by
  constructor
  · intro h
    unfold parseSint at h
    split at h
    all_goals
      simp only [Option.map_eq_some_iff, Prod.exists, Prod.mk.injEq] at h
      obtain ⟨m, r', hp, rfl, rfl⟩ := h
      obtain ⟨d, hd, rfl, hend⟩ := parseInt_iff.1 hp
    · exact ⟨true, d, m, hd, rfl, rfl, hend⟩
    · exact ⟨false, d, m, hd, rfl, rfl, hend⟩
  · rintro ⟨neg, d, m, hd, rfl, rfl, hend⟩
    have hp := parseInt_iff.2 ⟨d, hd, rfl, hend⟩
    cases neg with
    | true => simp [parseSint, hp]
    | false =>
      unfold parseSint
      split
      · rename_i r' he
        obtain ⟨hne, hdigits, -⟩ := hd
        cases d with
        | nil => exact absurd rfl hne
        | cons c d =>
          obtain rfl : c = '-' := by simpa using congrArg List.head? he
          exact absurd (hdigits '-' (by simp)) (by simp [isDigit_minus])
      · simpa using hp

theorem expectText_iff {p t r : Text} : expectText p t = some r ↔ t = p ++ r := by
  induction p generalizing t with
  | nil => simp [expectText]
  | cons c p ih =>
    cases t with
    | nil => simp [expectText]
    | cons d t =>
      by_cases hc : c = d
      · simp [expectText, hc, ih]
      · simp [expectText, hc, Ne.symm hc]

theorem parseKind_iff {t r : Text} {k : StimKind} : parseKind t = some (k, r) ↔ t = kindText k ++ r := by
  unfold parseKind
  split
  · rename_i r' h
    obtain rfl := expectText_iff.1 h
    cases k <;> simp [kindText, eq_comm]
  · rename_i h
    simp only [Option.map_eq_some_iff, Prod.mk.injEq, expectText_iff]
    cases k with
    | AO =>
      have hAO : t ≠ kindText .AO ++ r := fun e => by simpa using h.symm.trans (expectText_iff.2 e)
      simp [hAO]
    | DO => simp [kindText]

theorem endsDigits_cons {c : Char} (h : isDigit c = false) (r : Text) : endsDigits (c :: r) := by
  simp [endsDigits, h]

/-- The stimulus grammar of R112. -/
theorem parseStimulus_iff {t : Text} {spec : Stimulus} : parseStimulus t = some spec ↔
    ∃ (dc dn dv : Text) (neg : Bool) (m : Nat),
      isDecimal dc spec.card ∧ isDecimal dn spec.number ∧ isDecimal dv m ∧
      spec.value = (if neg then -(m : Int) else (m : Int)) ∧
      t = ['C'] ++ dc ++ ['_'] ++ kindText spec.kind ++ dn ++ ['_'] ++ (if neg then ['-'] else []) ++ dv := by
  simp only [parseStimulus, Option.bind_eq_bind, Option.bind_eq_some_iff, Prod.exists, expectText_iff, parseInt_iff,
    parseKind_iff, parseSint_iff]
  constructor
  · rintro ⟨r1, rfl, card, r2, ⟨dc, hdc, rfl, -⟩, r3, rfl, kind, r4, rfl, number, r5, ⟨dn, hdn, rfl, -⟩, r6, rfl, value, r7,
      ⟨neg, dv, m, hdv, rfl, rfl, -⟩, h⟩
    split at h
    · rename_i hr
      obtain rfl := Option.some.inj h
      subst hr
      exact ⟨dc, dn, dv, neg, m, hdc, hdn, hdv, rfl, by simp⟩
    · simp at h
  · rintro ⟨dc, dn, dv, neg, m, hdc, hdn, hdv, hv, rfl⟩
    let sv := (if neg then ['-'] else []) ++ dv
    refine ⟨dc ++ (['_'] ++ (kindText spec.kind ++ (dn ++ (['_'] ++ sv)))), by simp [sv], _, _,
      ⟨dc, hdc, rfl, endsDigits_cons (by decide) _⟩, _, rfl, _, _, rfl, _, _,
      ⟨dn, hdn, rfl, endsDigits_cons (by decide) _⟩, _, rfl, spec.value, [], ⟨neg, dv, m, hdv, hv, by simp [sv], ?_⟩, ?_⟩
    · simp [endsDigits]
    · simp

/-- The grammar of a logic expectation of R113. -/
theorem parseLogicExpected_iff {t : Text} {e : LogicExpectation} : parseLogicExpected t = some e ↔
    ∃ dc dn : Text, isDecimal dc e.card ∧ isDecimal dn e.number ∧
      t = ['C'] ++ dc ++ ['_', 'D', 'I'] ++ dn ++ ['_', if e.bit then '1' else '0'] := by
  simp only [parseLogicExpected, Option.bind_eq_bind, Option.bind_eq_some_iff, Prod.exists, expectText_iff,
    parseInt_iff]
  constructor
  · rintro ⟨r1, rfl, card, r2, ⟨dc, hdc, rfl, -⟩, r3, rfl, number, r4, ⟨dn, hdn, rfl, -⟩, r5, rfl, h⟩
    split at h
    · rename_i hr
      obtain rfl := Option.some.inj h
      subst hr
      exact ⟨dc, dn, hdc, hdn, by simp⟩
    · split at h
      · rename_i hr
        obtain rfl := Option.some.inj h
        subst hr
        exact ⟨dc, dn, hdc, hdn, by simp⟩
      · simp at h
  · rintro ⟨dc, dn, hdc, hdn, rfl⟩
    refine ⟨dc ++ (['_', 'D', 'I'] ++ (dn ++ (['_'] ++ [if e.bit then '1' else '0']))), by simp, _, _,
      ⟨dc, hdc, rfl, endsDigits_cons (by decide) _⟩, _, rfl, _, _,
      ⟨dn, hdn, rfl, endsDigits_cons (by decide) _⟩, [if e.bit then '1' else '0'], rfl, ?_⟩
    obtain ⟨card, number, bit⟩ := e
    cases bit <;> simp

/-- The two special strings match no grammar, so every string names a stimulus exactly when the grammar reads one
(R114, R221). -/
theorem classifyPowerInput_eq (t : Text) : classifyPowerInput t = parseStimulus t := by
  unfold classifyPowerInput isNoStimulusText
  split
  · rename_i h
    rcases of_decide_eq_true h with rfl | rfl <;> rfl
  · rfl

/-- Settles O49. -/
theorem directiveGrammars : Obligations.DirectiveGrammars := by
  unfold Obligations.DirectiveGrammars
  refine ⟨fun t spec => parseStimulus_iff, fun t e => parseLogicExpected_iff, fun t h => ?_, fun t spec h => ?_,
    fun t => decide_eq_true_iff⟩
  · rcases h with rfl | rfl | h
    · rfl
    · rfl
    · rw [classifyPowerInput_eq, h]
  · rw [classifyPowerInput_eq, h]

end Sys2Proof.Machine

/-!
PROOFS about a step of the whole machine: what an operation, an event, a caller's turn and an input of the environment
can do, said once (R16, R186, R279, R281).
-/

namespace Sys2Proof.Machine

/-! ## What an operation of a card, or an event, can do -/

/-- What setters, `start` and `stop` do to the state, their response aside: one channel is written, after at most a draw
(R145, R171, R172, R186). -/
inductive OpAct (s : State) : State → Prop where
  | keep : OpAct s s
  | regs {c : Int} {ch : Channel} {e : Env} (r : SendRegs) (h : s.chan c = some ch)
      (he : e = s.env ∨ e = s.env.drawTie.2) : OpAct s ((s.setEnv e).setChan c { ch with sf := r })
  | started {c : Int} {ch : Channel} (h : s.chan c = some ch) (hr : ch.run = .created) :
      OpAct s ((s.setEnv s.env.drawBind.2).setChan c { ch with run := .running, startedAt := some s.env.now })
  | bindFailed {c : Int} {ch : Channel} (h : s.chan c = some ch) (hr : ch.run = .created) :
      OpAct s (((s.setEnv s.env.drawBind.2).setChan c { ch with run := .failed }).emit (.bindFailure ch.id))
  | stopped {c : Int} {ch : Channel} (h : s.chan c = some ch) (hr : ch.run = .running) :
      OpAct s (s.setChan c { ch with run := .stopped })

/-- What the events do to the state (R176 to R181, R282). -/
inductive EventAct (s : State) : State → Prop where
  | keep : EventAct s s
  | lost (c : Int) : EventAct s (s.setEnv (s.env.takeDatagram c).2)
  | sent {c : Int} {ch : Channel} (h : s.chan c = some ch) (hr : ch.run = .running) :
      EventAct s ((s.setEnv (s.env.drawSend.2.transmit c (imageOf s.cfg ch))).setChan c
        { ch with lastTx := some (imageOf s.cfg ch), txCount := ch.txCount + 1, lastTick := some s.env.now })
  | sendFailed {c : Int} {ch : Channel} (h : s.chan c = some ch) (hr : ch.run = .running) :
      EventAct s (((s.setEnv s.env.drawSend.2).setChan c
        { ch with txErrors := ch.txErrors + 1, lastTick := some s.env.now }).emit (.sendFailure ch.id))
  | received {c : Int} {ch : Channel} (b : RxBuffer) (h : s.chan c = some ch) (hr : ch.run = .running) :
      EventAct s ((s.setEnv (s.env.takeDatagram c).2).setChan c
        { ch with
          rf := some b, lastRx := some s.env.now, rxTimes := s.env.now :: ch.rxTimes, rxCount := ch.rxCount + 1 })
  | dropped {c : Int} {ch : Channel} (n : Nat) (h : s.chan c = some ch) (hr : ch.run = .running) :
      EventAct s (((s.setEnv (s.env.takeDatagram c).2).setChan c { ch with rxDropped := ch.rxDropped + 1 }).emit
        (.malformedLength ch.id n))

/-- A response that reports no check, or one whose verdict agrees with its reason (R267). -/
def SoundAnswer (r : Response) : Prop := ∀ x, r = .okValue (.check x) → (x.pass = true ↔ x.reason = .ok)

/-- What a card operation or a stop request does, with its response (R119, R182 to R189, R264). -/
inductive CardAct (i : Instr) (s : State) : State → Prop where
  | answer (r : Response) (hr : SoundAnswer r) : CardAct i s (s.respond r)
  | op {u : State} {r : Response} (hu : OpAct s u) (hr : r = .ok ∨ ∃ b, r = .okValue (.bool b)) :
      CardAct i s (u.respond r)
  | parsed {c : Nat} {ch : Channel} (b : RxBuffer) (hi : i = .parse c) (h : s.chan c = some ch) :
      CardAct i s (((s.setEnv (s.env.takeDatagram c).2).setChan c { ch with rf := some b }).respond .ok)
  | unparsed {c : Nat} (n : Nat) (hi : i = .parse c) :
      CardAct i s ((s.setEnv (s.env.takeDatagram c).2).respond (.error (lengthError n)))
  | begun (kind : FleetOpKind) : CardAct i s (s.beginFleetOp kind)
  | stopRequest : CardAct i s ((s.setStop true).respond .ok)

/-! ## Card operations -/

section
variable {i : Instr} {s : State}

theorem CardAct.fleetSet (c : Int) (f : SendRegs → Except Err SendRegs) :
    CardAct i s (Machine.answer (fleetSet c f s)) := by
  rcases fleetSet_cases c f s with ⟨-, h⟩ | ⟨ch, e, -, -, h⟩ | ⟨ch, r, hc, -, h⟩
  · exact h ▸ .answer _ (by simp [SoundAnswer])
  · exact h ▸ .answer _ (by simp [SoundAnswer])
  · exact h ▸ .op (.regs r hc (.inl rfl)) (.inl rfl)

/-- Where the environment is asked about a tie, the write is accepted (R108, R145). -/
theorem CardAct.fleetSetAnalog (c n : Int) (v : Volts) : CardAct i s (Machine.answer (fleetSetAnalog c n v s)) := by
  by_cases h : s.cfg.roundTie = .draw ∧ isTie (rawUnits v) = true ∧ (s.chan c).isSome ∧ analogRefusal n v = none
  · obtain ⟨ch, hc⟩ := Option.isSome_iff_exists.1 h.2.2.1
    have hc' : (s.setEnv s.env.drawTie.2).chan c = some ch := hc
    have hset : ∃ r, SendRegs.setAnalog s.cfg.roundTie s.env.drawTie.1 n v ch.sf = .ok r :=
      ⟨_, by rw [SendRegs.setAnalog, h.2.2.2]⟩
    obtain ⟨r, hr⟩ := hset
    rw [Machine.fleetSetAnalog, if_pos h, fleetSet_of_ok hc' hr]
    exact .op (.regs _ hc (.inr rfl)) (.inl rfl)
  · rw [Machine.fleetSetAnalog, if_neg h]
    exact .fleetSet c _

theorem CardAct.fleetParse {c : Nat} (hi : i = .parse c) : CardAct i s (Machine.answer (fleetParse c s)) := by
  unfold Machine.fleetParse
  split
  · exact .answer _ (by simp [SoundAnswer])
  · unfold parseInto
    dsimp only
    split
    · exact .unparsed _ hi
    · exact .parsed _ hi ‹_›

theorem OpAct.startChannel {c : Int} {ch : Channel} (h : s.chan c = some ch) : OpAct s (startChannel c ch s).2 := by
  rcases startChannel_cases c ch s with ⟨-, e⟩ | ⟨-, e⟩ | ⟨hr, -, e⟩ | ⟨hr, -, e⟩
  · exact e ▸ .keep
  · exact e ▸ .keep
  · exact e ▸ .started h hr
  · exact e ▸ .bindFailed h hr

theorem OpAct.setStopped {c : Int} {ch : Channel} (h : s.chan c = some ch) : OpAct s (s.setChan c ch.stopped) := by
  rw [Channel.stopped_eq]
  split
  · exact .stopped h ‹_›
  · exact (State.setChan_self h).symm ▸ .keep

theorem OpAct.fleetStop (c : Int) : OpAct s (fleetStop c s).2 := by
  unfold Machine.fleetStop
  split
  · exact .keep
  · exact .setStopped ‹_›

theorem OpAct.takeCard (op : FleetOp) : OpAct s (op.takeCard s).2 := by
  unfold FleetOp.takeCard
  split
  · rcases startCard_cases op.next s with ⟨-, e⟩ | ⟨ch, hc, e⟩
    · exact e ▸ .keep
    · exact e ▸ .startChannel hc
  · exact .fleetStop _

theorem CardAct.fleetStart (c : Int) : CardAct i s (Machine.answer (fleetStart c s)) := by
  unfold Machine.fleetStart
  split
  · exact .answer _ (by simp [SoundAnswer])
  · exact .op (.startChannel ‹_›) (.inr ⟨_, rfl⟩)

theorem CardAct.fleetStop (c : Int) : CardAct i s (Machine.answer (fleetStop c s)) := by
  unfold Machine.fleetStop
  split
  · exact .answer _ (by simp [SoundAnswer])
  · exact .op (.setStopped ‹_›) (.inl rfl)

/-- A getter answers and writes nothing (R76). -/
theorem CardAct.fleetGet (c : Int) {f : Channel → Response} (hf : ∀ ch, SoundAnswer (f ch)) :
    CardAct i s (s.respond (fleetGet c f s)) := by
  refine .answer _ ?_
  unfold Machine.fleetGet
  split
  · simp [SoundAnswer]
  · exact hf _

end

theorem soundAnswer_ofFrame {f : RxBuffer → Value} (hf : ∀ b x, f b ≠ .check x) (ch : Channel) :
    SoundAnswer (ofFrame f ch) := by
  unfold ofFrame
  split <;> simp [SoundAnswer, hf]

/-- A request that is no engine-side one and no event does what a card operation can do. -/
theorem exec_cardAct {i : Instr} (hi : i.engineSide = false) (he : i.isEvent = false) (s : State) :
    ∃ t, exec i s = .next t ∧ CardAct i s t := by
  cases i
  case sdo c n b => exact ⟨_, rfl, .fleetSet c _⟩
  case sttl c n b => exact ⟨_, rfl, .fleetSet c _⟩
  case smd c rows cols => exact ⟨_, rfl, .fleetSet c _⟩
  case sao c n mv => exact ⟨_, rfl, .fleetSetAnalog c n _⟩
  case gdo c n => exact ⟨_, rfl, .fleetGet c fun ch => by unfold digitalOutput; split <;> simp [SoundAnswer]⟩
  case gttl c n => exact ⟨_, rfl, .fleetGet c fun ch => by unfold ttlOutput; split <;> simp [SoundAnswer]⟩
  case gmd c => exact ⟨_, rfl, .fleetGet c fun ch => by simp [SoundAnswer, matrixDimensions]⟩
  case gao c n => exact ⟨_, rfl, .fleetGet c fun ch => by unfold analogOutput; split <;> simp [SoundAnswer]⟩
  case enc c => exact ⟨_, rfl, .fleetGet c fun ch => by simp [SoundAnswer]⟩
  case gdi c n =>
    refine ⟨_, rfl, .fleetGet c fun ch => ?_⟩
    unfold digitalInput
    split
    · simp [SoundAnswer]
    · exact soundAnswer_ofFrame (by simp) ch
  case gdia c => exact ⟨_, rfl, .fleetGet c (soundAnswer_ofFrame (by simp))⟩
  case gai c n =>
    refine ⟨_, rfl, .fleetGet c fun ch => ?_⟩
    unfold analogInput
    split
    · simp [SoundAnswer]
    · exact soundAnswer_ofFrame (by simp) ch
  case gts c => exact ⟨_, rfl, .fleetGet c (soundAnswer_ofFrame (by simp))⟩
  case parse c => exact ⟨_, rfl, .fleetParse rfl⟩
  case start c => exact ⟨_, rfl, .fleetStart c⟩
  case stop c => exact ⟨_, rfl, .fleetStop c⟩
  case live c => exact ⟨_, rfl, .fleetGet c fun ch => by simp [SoundAnswer]⟩
  case startall => exact ⟨_, rfl, .begun .startAll⟩
  case stopall => exact ⟨_, rfl, .begun .stopAll⟩
  case reqstop => exact ⟨_, rfl, .stopRequest⟩
  case tick | rx | rxwait => cases he
  case lookup | route | clrall | clrbits | pwr | pup | lgc | sct | rft | runseq | close => cases hi

/-! ## Events -/

theorem EventAct.fleetTick (c : Int) (s : State) : EventAct s (fleetTick c s) := by
  unfold Machine.fleetTick
  split
  · exact .keep
  · rename_i ch hc
    split
    · rename_i hdue
      unfold tickChannel
      dsimp only
      split
      · exact .sent hc hdue.1
      · exact .sendFailed hc hdue.1
    · exact .keep

theorem Env.takeDatagram_now (c : Int) (e : Env) : (e.takeDatagram c).2.now = e.now := by
  rw [Env.takeDatagram_frame]

theorem EventAct.fleetRx (c : Int) (s : State) : EventAct s (fleetRx c s) := by
  unfold Machine.fleetRx
  split
  · exact .keep
  · rename_i ch hc
    dsimp only
    split
    · rename_i hr
      unfold receiveDatagram
      rw [State.setEnv_env, Env.takeDatagram_now]
      split
      · exact .received _ hc hr
      · exact .dropped _ hc hr
    · exact .lost c

theorem exec_eventAct {i : Instr} (he : i.isEvent = true) (s : State) : ∃ t, exec i s = .next t ∧ EventAct s t := by
  cases i
  case tick c => exact ⟨_, rfl, .fleetTick c s⟩
  case rx c => exact ⟨_, rfl, .fleetRx c s⟩
  case rxwait => exact ⟨_, rfl, .keep⟩
  all_goals cases he

/-! ## Requests an idle engine takes -/

/-- The position a check or sequence begins at, with its values (R46). -/
def BeginsAt (p : SeqPos) (w : Work) : Prop :=
  (((p.phase = .power ∨ p.phase = .pullUp ∨ p.phase = .logic) ∧ p.step = 1 ∧ w = .idle) ∨
    (p = { phase := .sweep, idx := 1, step := 1 } ∧ w = .idle) ∨
    (p.phase = .relayFuse ∧ p.step = 1 ∧ ∃ ka kb, w = { Work.idle with pairA := ka, pairB := kb }))

/-- What an engine-side request does in an idle engine (R204 to R208, R220, R260 to R266). -/
inductive EngineAct (s : State) : State → Prop where
  | answer (r : Response) (hr : SoundAnswer r) : EngineAct s (s.respond r)
  | router {u : State} {r : Response} (hu : FacadeOnly s u) (hwf : s.pins.wf → u.pins.wf)
      (ht : ∃ l, u.facade = l ++ s.facade ∧ ∀ c ∈ l, c.time = s.env.now ∧ c.isWrite = true)
      (hr : r = .ok ∨ ∃ j, r = .error (lineError j)) : EngineAct s (u.respond r)
  | begun {p : SeqPos} {w : Work} (h : BeginsAt p w) : EngineAct s (s.beginCheck p w)
  | skipped (p : Phase) (k : Nat) : EngineAct s ((s.emit (.skipped p k)).respond (.okValue .skipped))
  | sequence : EngineAct s (((s.setStop false).beginCheck { phase := .power, idx := 0, step := 0 }
      { Work.idle with inSeq := true }).respond .ok)
  | close : EngineAct s (((s.setClosed true).call (.close s.env.now)).respond .ok)

/-- A run of writes to control lines makes writes only, and an error of it names a line (R208). -/
theorem driveLines_calls (l : Bool) (is : List (Fin 16)) (s : State) :
    (∃ calls, (driveLines l is s).2.facade = calls ++ s.facade ∧ ∀ c ∈ calls, c.time = s.env.now ∧ c.isWrite = true) ∧
      ((driveLines l is s).1 = none ∨ ∃ j, (driveLines l is s).1 = some (lineError j)) := by
  induction is generalizing s with
  | nil => exact ⟨⟨[], rfl, by simp⟩, .inl rfl⟩
  | cons i is ih =>
    obtain ⟨hframe, -, -⟩ := digitalWrite_frame s.cfg.linePin[i] l s
    have hone : (digitalWrite s.cfg.linePin[i] l s).2.facade =
        .dw s.env.now s.cfg.linePin[i] l (digitalWrite s.cfg.linePin[i] l s).1 :: s.facade := rfl
    simp only [driveLines]
    split
    · obtain ⟨⟨calls, hcalls, hall⟩, herr⟩ := ih (digitalWrite s.cfg.linePin[i] l s).2
      refine ⟨⟨calls ++ [.dw s.env.now s.cfg.linePin[i] l (digitalWrite s.cfg.linePin[i] l s).1], ?_, fun c hc => ?_⟩, herr⟩
      · rw [hcalls, hone, List.append_assoc]
        rfl
      · rcases List.mem_append.1 hc with hc | hc
        · exact hframe.now ▸ hall c hc
        · obtain rfl := List.mem_singleton.1 hc
          exact ⟨rfl, rfl⟩
    · exact ⟨⟨[_], hone, by simp [FacadeCall.time, FacadeCall.isWrite]⟩, .inr ⟨_, rfl⟩⟩

theorem EngineAct.driveLines (l : Bool) (is : List (Fin 16)) (s : State) :
    EngineAct s (routerAnswer (driveLines l is s)) := by
  obtain ⟨hframe, -, hwf⟩ := driveLines_frame l is s
  obtain ⟨hcalls, herr⟩ := driveLines_calls l is s
  refine .router hframe hwf hcalls ?_
  rcases herr with h | ⟨j, h⟩
  · rw [h]; exact .inl rfl
  · rw [h]; exact .inr ⟨j, rfl⟩

theorem EngineAct.requestCheck {s : State} (hb : s.busy = false) {p : Phase}
    (hp : p = .power ∨ p = .pullUp ∨ p = .logic) (k : Nat) : EngineAct s (requestCheck p k s) := by
  rw [requestCheck_idle hb]
  split
  · refine .answer _ ?_
    rcases noSubjectResponse_cases k with h | h | h <;> rw [h] <;> simp [SoundAnswer]
  · split
    · exact .begun (.inl ⟨hp, rfl, rfl⟩)
    · exact .skipped p k

/-- An engine-side request is refused while the engine is busy, and else does what an idle engine can do (R313). -/
theorem exec_engineAct {i : Instr} (hi : i.engineSide = true) (s : State) :
    ∃ t, exec i s = .next t ∧ ((s.busy = true ∧ t = s.respond .refused) ∨ (s.busy = false ∧ EngineAct s t)) := by
  cases hb : s.busy with
  | true =>
    obtain ⟨t, ht⟩ := exec_engineSide hi s
    exact ⟨_, ht, .inl ⟨rfl, whenIdle_busy hb t⟩⟩
  | false =>
    suffices h : ∃ t, exec i s = .next t ∧ EngineAct s t by
      obtain ⟨t, ht, hact⟩ := h
      exact ⟨t, ht, .inr ⟨rfl, hact⟩⟩
    cases i
    case lookup pin sch =>
      refine ⟨_, exec_lookup_idle hb pin sch, .answer _ ?_⟩
      unfold lookupResponse
      split <;> simp [SoundAnswer]
    case route pin sch =>
      refine ⟨_, exec_route_idle hb pin sch, ?_⟩
      unfold routePin
      split
      · exact .answer _ (by simp [SoundAnswer, outcomeResponse])
      · exact .driveLines _ _ s
    case clrall => exact ⟨_, exec_clrall_idle hb, .driveLines _ _ s⟩
    case clrbits p => exact ⟨_, exec_clrbits_idle hb p, .driveLines _ _ s⟩
    case pwr k => exact ⟨_, rfl, .requestCheck hb (.inl rfl) k⟩
    case pup k => exact ⟨_, rfl, .requestCheck hb (.inr (.inl rfl)) k⟩
    case lgc k => exact ⟨_, rfl, .requestCheck hb (.inr (.inr rfl)) k⟩
    case sct => exact ⟨_, congrArg Host.Outcome.next (whenIdle_idle hb _), .begun (.inr (.inl ⟨rfl, rfl⟩))⟩
    case rft ka kb =>
      exact ⟨_, congrArg Host.Outcome.next (whenIdle_idle hb _), .begun (.inr (.inr ⟨rfl, rfl, ka, kb, rfl⟩))⟩
    case runseq => exact ⟨_, congrArg Host.Outcome.next (whenIdle_idle hb _), .sequence⟩
    case close => exact ⟨_, congrArg Host.Outcome.next (whenIdle_idle hb _), .close⟩
    all_goals cases hi

/-! ## Inputs -/

/-- What the environment's own inputs do to it: the clock does not run back, a datagram comes to wire-RX or leaves
wire-TX (R12, R48). -/
def EnvAct (e f : Env) : Prop :=
  f = { e with now := f.now, rxWire := f.rxWire, txWire := f.txWire } ∧ e.now ≤ f.now ∧
    ∀ (k : Nat) (d : Datagram), d ∈ f.txWire[k]?.getD [] → d ∈ e.txWire[k]?.getD []

/-- What each input can do (R16). -/
inductive InputAct (s : State) : Input → State → Prop where
  | unread (w : Word) (e : Err) : InputAct s (.command w) (s.raise e)
  | card {w : Word} {i : Instr} {t : State} (hd : decode w = .ok i) (h : CardAct i s t) : InputAct s (.command w) t
  | refused (w : Word) (hb : s.busy = true) : InputAct s (.command w) (s.respond .refused)
  | engine {t : State} (w : Word) (hb : s.busy = false) (h : EngineAct s t) : InputAct s (.command w) t
  | event {t : State} (w : Word) (h : EventAct s t) : InputAct s (.event w) t
  | worker : InputAct s .worker (workerStep s)
  | caller (k : Nat) : InputAct s (.caller k) (callerStep k s)
  | clock (t : Time) {e : Env} (h : EnvAct s.env e) : InputAct s (.clock t) (s.setEnv e)
  | deliver (c : Nat) (d : Datagram) {e : Env} (h : EnvAct s.env e) : InputAct s (.deliver c d) (s.setEnv e)
  | carry (c : Nat) {e : Env} (h : EnvAct s.env e) : InputAct s (.carry c) (s.setEnv e)
  | subjects (l : List SubjectInput) : InputAct s (.subjects l) (loadSubjects l s)

theorem EnvAct.clockAt (t : Time) (e : Env) : EnvAct e (e.clockAt t) := ⟨rfl, le_max_left _ _, fun _ _ h => h⟩

theorem EnvAct.onWire {e f : Env} (h : EnvAct e f) (c : Nat) : EnvAct e (onWire c e f) := by
  unfold Machine.onWire
  split
  · exact h
  · exact ⟨rfl, le_refl _, fun _ _ h => h⟩

theorem EnvAct.deliver (c : Int) (d : Datagram) (e : Env) : EnvAct e (e.deliver c d) :=
  ⟨rfl, le_refl _, fun _ _ h => h⟩

/-- Setting one wire of the vector, in the terms of `WiresOk`. -/
theorem getElem?_getD_setIfInBounds (v : Vector (List Datagram) 7) (j k : Nat) (l : List Datagram) :
    (v.setIfInBounds j l)[k]?.getD [] = if j = k ∧ k < 7 then l else v[k]?.getD [] := by
  rw [Vector.getElem?_setIfInBounds]
  by_cases hk : j = k
  · by_cases h7 : k < 7 <;> simp [hk, h7]
  · simp [hk]

theorem EnvAct.carry (c : Int) (e : Env) : EnvAct e (e.carry c) := by
  refine ⟨rfl, le_refl _, fun k d h => ?_⟩
  simp only [Env.carry, getElem?_getD_setIfInBounds] at h
  split at h
  · rename_i hk
    exact hk.1 ▸ List.mem_of_mem_drop h
  · exact h

/-- Every input has its step, and this is what it can do. -/
theorem runInput_act (x : Input) (s : State) : ∃ t, runInput x s = .next t ∧ InputAct s x t := by
  cases x with
  | command w =>
    cases hd : decode w with
    | error e =>
      obtain ⟨op⟩ := e
      exact ⟨s.raise (opcodeError op), by simp only [runInput, runCommand, hd], .unread w _⟩
    | ok i =>
      cases he : i.isEvent with
      | true => exact ⟨s.raise (opcodeError w.op), by simp only [runInput, runCommand, hd, he, if_true], .unread w _⟩
      | false =>
        have hrun : runInput (.command w) s = exec i s := runCommand_decoded hd he s
        rw [hrun]
        cases hi : i.engineSide with
        | false =>
          obtain ⟨t, ht, h⟩ := exec_cardAct hi he s
          exact ⟨t, ht, .card hd h⟩
        | true =>
          obtain ⟨t, ht, ⟨hb, rfl⟩ | ⟨hb, h⟩⟩ := exec_engineAct hi s
          · exact ⟨_, ht, .refused w hb⟩
          · exact ⟨t, ht, .engine w hb h⟩
  | event w =>
    cases hd : decode w with
    | error e => exact ⟨s, by simp only [runInput, runEvent, hd], .event w .keep⟩
    | ok i =>
      cases he : i.isEvent with
      | false => exact ⟨s, by simp [runInput, runEvent, hd, he], .event w .keep⟩
      | true =>
        obtain ⟨t, ht, h⟩ := exec_eventAct he s
        exact ⟨t, (runEvent_decoded hd he s).trans ht, .event w h⟩
  | worker => exact ⟨_, rfl, .worker⟩
  | caller k => exact ⟨_, rfl, .caller k⟩
  | clock t => exact ⟨_, rfl, .clock t (.clockAt t _)⟩
  | deliver c d => exact ⟨_, rfl, .deliver c d (.onWire (.deliver c d _) c)⟩
  | carry c => exact ⟨_, rfl, .carry c (.onWire (.carry c _) c)⟩
  | subjects l => exact ⟨_, rfl, .subjects l⟩

/-- The state in which the next input is taken: the agenda, or the count of draws, has moved (R16). -/
def State.fetched (s : State) : State := (fetchInput s).2

theorem State.fetched_eq (s : State) :
    s.fetched = s.setEnv { s.env with agenda := s.fetched.env.agenda, draws := s.fetched.env.draws } := by
  unfold State.fetched fetchInput
  cases s.env.agenda <;> rfl

/-- What a step can do. -/
theorem step_act (s : State) : ∃ t, step s = .next t ∧ InputAct s.fetched (fetchInput s).1 t := runInput_act _ _

theorem inputAct_of_step {s t : State} (h : step s = .next t) : InputAct s.fetched (fetchInput s).1 t := by
  obtain ⟨t', ht', hact⟩ := step_act s
  obtain rfl : t = t' := Host.Outcome.next.inj (h.symm.trans ht')
  exact hact

end Sys2Proof.Machine

/-!
PROOFS about every step: what errors leave, what nobody but the worker touches, the fleet map and the channels (R27, R38,
R171, R185, R279, R281, R283, R285).
-/

namespace Sys2Proof.Machine

/-! ## Errors write nothing (R279) -/

/-- What R279 says of an operation that ended in `t`. -/
def ErrorFrame (i : Instr) (s t : State) : Prop :=
  (t.responses = .absent :: s.responses ∨ t.responses = .refused :: s.responses →
    t = { s with responses := t.responses }) ∧
  (∀ e, t.responses = .error e :: s.responses → e.cls ≠ .facadeFailure →
    t = { s with
      responses := t.responses
      env := { s.env with draws := t.env.draws, rxWire := t.env.rxWire } } ∧
    ((∀ c, i ≠ .parse c) → t.env = s.env))

section
variable {i : Instr} {s t : State}

theorem ErrorFrame.respond (r : Response) : ErrorFrame i s (s.respond r) :=
  ⟨fun _ => rfl, fun _ _ _ => ⟨rfl, fun _ => rfl⟩⟩

/-- An operation that gave no response gave no error. -/
theorem ErrorFrame.of_silent (h : t.responses = s.responses) : ErrorFrame i s t := by
  have hne (r : Response) : t.responses ≠ r :: s.responses := by
    rw [h]
    exact (List.cons_ne_self r s.responses).symm
  exact ⟨fun hr => hr.elim (absurd · (hne _)) (absurd · (hne _)), fun e hr => absurd hr (hne _)⟩

/-- An operation whose response is none of those R279 speaks of. -/
theorem ErrorFrame.of_response {r : Response} (h : t.responses = r :: s.responses)
    (hr : r ≠ .absent ∧ r ≠ .refused ∧ ∀ e, r = .error e → e.cls = .facadeFailure) : ErrorFrame i s t := by
  obtain ⟨habsent, hrefused, herror⟩ := hr
  refine ⟨fun hr => ?_, fun e hr hcls => ?_⟩
  · rcases hr with hr | hr
    · exact absurd (List.cons.inj (h.symm.trans hr)).1 habsent
    · exact absurd (List.cons.inj (h.symm.trans hr)).1 hrefused
  · exact absurd (herror e (List.cons.inj (h.symm.trans hr)).1) hcls

/-- A stored or refused payload: the datagram is gone from the wire (log entry 31). -/
theorem ErrorFrame.unparsed {c n : Nat} (hi : i = .parse c) :
    ErrorFrame i s ((s.setEnv (s.env.takeDatagram c).2).respond (.error (lengthError n))) := by
  refine ⟨fun hr => ?_, fun e _ _ => ⟨?_, fun hnot => absurd hi (hnot c)⟩⟩
  · rcases hr with hr | hr <;> cases (List.cons.inj hr).1
  · rw [Env.takeDatagram_frame]
    rfl

theorem OpAct.responses {u : State} (h : OpAct s u) : u.responses = s.responses := by
  cases h <;> rfl

theorem EventAct.responses (h : EventAct s t) : t.responses = s.responses := by
  cases h <;> rfl

theorem CardAct.errorFrame (h : CardAct i s t) : ErrorFrame i s t := by
  cases h with
  | answer r hr => exact .respond r
  | op hu hr =>
    refine .of_response (congrArg _ hu.responses) ?_
    rcases hr with rfl | ⟨b, rfl⟩ <;> simp
  | parsed b hi h => exact .of_response (r := .ok) rfl (by simp)
  | unparsed n hi => exact .unparsed hi
  | begun kind => exact .of_silent rfl
  | stopRequest => exact .of_response (r := .ok) rfl (by simp)

theorem EngineAct.errorFrame (h : EngineAct s t) : ErrorFrame i s t := by
  cases h with
  | answer r hr => exact .respond r
  | router hu hwf ht hr =>
    refine .of_response (congrArg _ hu.responses) ?_
    rcases hr with rfl | ⟨j, rfl⟩
    · simp
    · exact ⟨by simp, by simp, fun e he => by cases he; rfl⟩
  | begun h => exact .of_silent rfl
  | skipped p k => exact .of_response (r := .okValue .skipped) rfl (by simp)
  | sequence => exact .of_response (r := .ok) rfl (by simp)
  | close => exact .of_response (r := .ok) rfl (by simp)

end

/-- Settles O19: an operation answers before it writes, and only PARSE and the router answer an error after. -/
theorem errorsWriteNothing : Obligations.ErrorsWriteNothing := by
  unfold Obligations.ErrorsWriteNothing
  intro i s t h
  change ErrorFrame i s t
  cases he : i.isEvent with
  | true =>
    obtain ⟨t', ht, hact⟩ := exec_eventAct he s
    obtain rfl := Host.Outcome.next.inj (h.symm.trans ht)
    exact .of_silent hact.responses
  | false =>
    cases hi : i.engineSide with
    | false =>
      obtain ⟨t', ht, hact⟩ := exec_cardAct hi he s
      obtain rfl := Host.Outcome.next.inj (h.symm.trans ht)
      exact hact.errorFrame
    | true =>
      obtain ⟨t', ht, ⟨-, rfl⟩ | ⟨-, hact⟩⟩ := exec_engineAct hi s
      · obtain rfl := Host.Outcome.next.inj (h.symm.trans ht)
        exact .respond _
      · obtain rfl := Host.Outcome.next.inj (h.symm.trans ht)
        exact hact.errorFrame

/-! ## What card operations and events leave of the engine (R86, R283) -/

/-- The facade, the pins, the subjects and the engine's own state are as they were. -/
def EngineKept (s t : State) : Prop :=
  t.cfg = s.cfg ∧ t.pins = s.pins ∧ t.facade = s.facade ∧ t.facadeClosed = s.facadeClosed ∧ t.subj = s.subj ∧
    t.busy = s.busy ∧ t.pos = s.pos ∧ t.work = s.work

section
variable {s t : State}

theorem EngineKept.refl (s : State) : EngineKept s s := ⟨rfl, rfl, rfl, rfl, rfl, rfl, rfl, rfl⟩

theorem EngineKept.trans {u : State} (h : EngineKept s t) (k : EngineKept t u) : EngineKept s u := by
  obtain ⟨h1, h2, h3, h4, h5, h6, h7, h8⟩ := h
  obtain ⟨k1, k2, k3, k4, k5, k6, k7, k8⟩ := k
  exact ⟨k1.trans h1, k2.trans h2, k3.trans h3, k4.trans h4, k5.trans h5, k6.trans h6, k7.trans h7, k8.trans h8⟩

/-- Updates of the fleet, the environment and the output streams. -/
theorem EngineKept.setEnv (h : EngineKept s t) (e : Env) : EngineKept s (t.setEnv e) := h
theorem EngineKept.setChan (h : EngineKept s t) (c : Int) (ch : Channel) : EngineKept s (t.setChan c ch) := h
theorem EngineKept.setFleetOps (h : EngineKept s t) (l : List FleetOp) : EngineKept s (t.setFleetOps l) := h
theorem EngineKept.respond (h : EngineKept s t) (r : Response) : EngineKept s (t.respond r) := h

theorem State.fetched_kept (s : State) : EngineKept s s.fetched := by
  rw [State.fetched_eq]
  exact (EngineKept.refl s).setEnv _

theorem OpAct.engineKept (h : OpAct s t) : EngineKept s t := by
  cases h <;> exact .refl s

theorem EventAct.engineKept (h : EventAct s t) : EngineKept s t := by
  cases h <;> exact .refl s

theorem CardAct.engineKept {i : Instr} (h : CardAct i s t) : EngineKept s t := by
  cases h with
  | op hu hr => exact hu.engineKept
  | answer | parsed | unparsed | begun | stopRequest => exact .refl s

/-- A caller's turn does at most one card operation, and rewrites the operations in progress (R188, R189). -/
theorem callerStep_act (k : Nat) (s : State) : ∃ u l, OpAct s u ∧ (callerStep k s = s ∨
    callerStep k s = u.setFleetOps l ∨ ∃ r, SoundAnswer r ∧ callerStep k s = (u.setFleetOps l).respond r) := by
  rcases callerStep_cases k s with ⟨-, h⟩ | ⟨op, -, ⟨-, h⟩ | ⟨-, h⟩⟩
  · exact ⟨s, [], .keep, .inl h⟩
  · exact ⟨_, _, .takeCard op, .inr (.inl h)⟩
  · refine ⟨_, _, .takeCard op, .inr (.inr ⟨_, ?_, h⟩)⟩
    unfold FleetOp.response
    split <;> simp [SoundAnswer]

theorem callerStep_engineKept (k : Nat) (s : State) : EngineKept s (callerStep k s) := by
  obtain ⟨u, l, hu, h | h | ⟨r, -, h⟩⟩ := callerStep_act k s
  · rw [h]; exact .refl s
  · rw [h]; exact hu.engineKept.setFleetOps l
  · rw [h]; exact (hu.engineKept.setFleetOps l).respond r

/-- While the engine is busy, an input other than the worker's turn leaves the engine alone. -/
theorem InputAct.engineKept_of_busy {x : Input} (h : InputAct s x t) (hb : s.busy = true) (hx : x ≠ .worker) :
    EngineKept s t := by
  cases h with
  | card hd h => exact h.engineKept
  | engine w hidle h => exact absurd (hb.symm.trans hidle) (by simp)
  | event w h => exact h.engineKept
  | worker => exact absurd rfl hx
  | caller k => exact callerStep_engineKept k s
  | subjects l => rw [loadSubjects, if_pos hb]; exact .refl s
  | unread | refused | clock | deliver | carry => exact .refl s

end

/-- Settles O57: only the worker's turns and the requests of an idle engine are about the facade and the engine. -/
theorem facadeBelongsToTheEngine : Obligations.FacadeBelongsToTheEngine := by
  unfold Obligations.FacadeBelongsToTheEngine
  refine ⟨fun s t hb hx h => ?_, fun i s t hi h => ?_⟩
  · have hfetch := s.fetched_kept
    have hbusy : s.fetched.busy = true := by
      obtain ⟨-, -, -, -, -, hb', -, -⟩ := hfetch
      exact hb'.trans hb
    obtain ⟨-, hpins, hfacade, hclosed, hsubj, hbusy, hpos, hwork⟩ :=
      hfetch.trans ((inputAct_of_step h).engineKept_of_busy hbusy hx)
    exact ⟨hpins, hfacade, hclosed, hsubj, hbusy.trans hb, hpos, hwork⟩
  · suffices hk : EngineKept s t from hk.2
    cases he : i.isEvent with
    | true =>
      obtain ⟨t', ht, hact⟩ := exec_eventAct he s
      exact Host.Outcome.next.inj (h.symm.trans ht) ▸ hact.engineKept
    | false =>
      obtain ⟨t', ht, hact⟩ := exec_cardAct hi he s
      exact Host.Outcome.next.inj (h.symm.trans ht) ▸ hact.engineKept

/-! ## Time and configuration (R8, R12) -/

section
variable {s t : State}

theorem OpAct.env (h : OpAct s t) : t.env.now = s.env.now ∧ t.env.txWire = s.env.txWire := by
  cases h with
  | keep | stopped => exact ⟨rfl, rfl⟩
  | regs r h he =>
    rcases he with rfl | rfl
    · exact ⟨rfl, rfl⟩
    · change s.env.drawTie.2.now = _ ∧ s.env.drawTie.2.txWire = _
      rw [Env.drawTie_frame]
      exact ⟨rfl, rfl⟩
  | started | bindFailed =>
    change s.env.drawBind.2.now = _ ∧ s.env.drawBind.2.txWire = _
    rw [Env.drawBind_frame]
    exact ⟨rfl, rfl⟩

theorem EventAct.now (h : EventAct s t) : t.env.now = s.env.now := by
  cases h with
  | keep => rfl
  | lost | received | dropped => exact Env.takeDatagram_now _ _
  | sent | sendFailed =>
    change s.env.drawSend.2.now = _
    rw [Env.drawSend_frame]

theorem CardAct.now {i : Instr} (h : CardAct i s t) : t.env.now = s.env.now := by
  cases h with
  | op hu hr => exact hu.env.1
  | parsed | unparsed => exact Env.takeDatagram_now _ _
  | answer | begun | stopRequest => rfl

theorem EngineAct.now (h : EngineAct s t) : t.env.now = s.env.now := by
  cases h with
  | router hu hwf ht hr => exact hu.now
  | answer | begun | skipped | sequence | close => rfl

theorem EngineAct.cfg (h : EngineAct s t) : t.cfg = s.cfg := by
  cases h with
  | router hu hwf ht hr => exact hu.cfg
  | answer | begun | skipped | sequence | close => rfl

theorem callerStep_env (k : Nat) (s : State) :
    (callerStep k s).env.now = s.env.now ∧ (callerStep k s).env.txWire = s.env.txWire := by
  obtain ⟨u, l, hu, h | h | ⟨r, -, h⟩⟩ := callerStep_act k s
  · rw [h]; exact ⟨rfl, rfl⟩
  · rw [h]; exact hu.env
  · rw [h]; exact hu.env

theorem workerStep_env (s : State) :
    (workerStep s).env.now = s.env.now ∧ (workerStep s).env.txWire = s.env.txWire := by
  obtain ⟨-, -, -, -, henv, -⟩ := workerStep_frame s
  rw [henv]
  exact ⟨rfl, rfl⟩

theorem loadSubjects_frame (l : List SubjectInput) (s : State) :
    loadSubjects l s = { s with subj := (loadSubjects l s).subj } := by
  unfold loadSubjects
  split <;> rfl

/-- The clock does not run back, and the configuration is constant. -/
theorem InputAct.now_cfg {x : Input} (h : InputAct s x t) : s.env.now ≤ t.env.now ∧ t.cfg = s.cfg := by
  cases h with
  | card hd h => exact ⟨h.now.ge, h.engineKept.1⟩
  | engine w hb h => exact ⟨h.now.ge, h.cfg⟩
  | event w h => exact ⟨h.now.ge, h.engineKept.1⟩
  | worker => exact ⟨(workerStep_env s).1.ge, (workerStep_frame s).1⟩
  | caller k => exact ⟨(callerStep_env k s).1.ge, (callerStep_engineKept k s).1⟩
  | clock t h | deliver c d h | carry c h => exact ⟨h.2.1, rfl⟩
  | subjects l => rw [loadSubjects_frame]; exact ⟨le_rfl, rfl⟩
  | unread | refused => exact ⟨le_rfl, rfl⟩

end

theorem State.fetched_env (s : State) : s.fetched.env.now = s.env.now ∧ s.fetched.env.txWire = s.env.txWire := by
  rw [State.fetched_eq]
  exact ⟨rfl, rfl⟩

/-- Settles O54. -/
theorem everyStepContinues : Obligations.EveryStepContinues := by
  unfold Obligations.EveryStepContinues
  intro s
  obtain ⟨t, ht, hact⟩ := step_act s
  obtain ⟨hnow, hcfg⟩ := hact.now_cfg
  exact ⟨t, ht, s.fetched_env.1 ▸ hnow, hcfg.trans s.fetched_kept.1⟩

/-! ## The fleet map and its channels -/

/-- The fleet map is the same, and each channel is `R`-related to what it was. -/
def FleetRel (R : Channel → Channel → Prop) (s t : State) : Prop :=
  ∀ c, (s.chan c = none → t.chan c = none) ∧ ∀ a, s.chan c = some a → ∃ b, t.chan c = some b ∧ R a b

section
variable {R : Channel → Channel → Prop} {s t : State}

theorem FleetRel.of_fleet_eq (hR : ∀ a, R a a) (h : t.fleet = s.fleet) : FleetRel R s t := fun c => by
  rw [State.chan_congr h]
  exact ⟨id, fun a ha => ⟨a, ha, hR a⟩⟩

theorem FleetRel.trans {u : State} (hR : ∀ a b c, R a b → R b c → R a c) (h : FleetRel R s t) (k : FleetRel R t u) :
    FleetRel R s u := by
  refine fun c => ⟨fun hc => (k c).1 ((h c).1 hc), fun a ha => ?_⟩
  obtain ⟨b, hb, hab⟩ := (h c).2 a ha
  obtain ⟨d, hd, hbd⟩ := (k c).2 b hb
  exact ⟨d, hd, hR a b d hab hbd⟩

theorem FleetRel.imp {S : Channel → Channel → Prop} (hRS : ∀ a b, R a b → S a b) (h : FleetRel R s t) :
    FleetRel S s t := by
  refine fun c => ⟨(h c).1, fun a ha => ?_⟩
  obtain ⟨b, hb, hab⟩ := (h c).2 a ha
  exact ⟨b, hb, hRS a b hab⟩

/-- One channel written. -/
theorem FleetRel.setChan (hR : ∀ a, R a a) {c : Int} {ch ch' : Channel} (h : s.chan c = some ch)
    (ht : t.fleet = (s.setChan c ch').fleet) (hch : R ch ch') : FleetRel R s t := by
  intro d
  rw [State.chan_congr ht, State.chan_setChan s (State.chan_bounds h)]
  by_cases hd : d = c
  · subst hd
    rw [h, if_pos rfl]
    exact ⟨fun he => (by cases he), fun a ha => ⟨ch', rfl, Option.some.inj ha ▸ hch⟩⟩
  · rw [if_neg hd]
    exact ⟨id, fun a ha => ⟨a, ha, hR a⟩⟩

/-- No channel comes or goes. -/
theorem FleetRel.isSome (h : FleetRel R s t) (c : Int) : (t.chan c).isSome = (s.chan c).isSome := by
  cases hc : s.chan c with
  | none => rw [(h c).1 hc]
  | some a =>
    obtain ⟨b, hb, -⟩ := (h c).2 a hc
    rw [hb]
    rfl

end

/-- What an operation, a caller's turn or the worker may change of a channel: the registers, the run state, and the time
of the start. -/
def OpChannel (a b : Channel) : Prop :=
  b = { a with sf := b.sf, run := b.run, startedAt := b.startedAt } ∧
    (b.run = a.run ∨ a.run = .created ∧ b.run = .running ∨ a.run = .created ∧ b.run = .failed ∨
      a.run = .running ∧ b.run = .stopped)

theorem OpChannel.refl (a : Channel) : OpChannel a a := ⟨rfl, .inl rfl⟩

section
variable {s t : State}

theorem OpAct.fleetRel (h : OpAct s t) : FleetRel OpChannel s t := by
  cases h with
  | keep => exact .of_fleet_eq .refl rfl
  | regs r h he => exact .setChan .refl h rfl ⟨rfl, .inl rfl⟩
  | started h hr => exact .setChan .refl h rfl ⟨rfl, .inr (.inl ⟨hr, rfl⟩)⟩
  | bindFailed h hr => exact .setChan .refl h rfl ⟨rfl, .inr (.inr (.inl ⟨hr, rfl⟩))⟩
  | stopped h hr => exact .setChan .refl h rfl ⟨rfl, .inr (.inr (.inr ⟨hr, rfl⟩))⟩

theorem callerStep_fleetRel (k : Nat) (s : State) : FleetRel OpChannel s (callerStep k s) := by
  obtain ⟨u, l, hu, h | h | ⟨r, -, h⟩⟩ := callerStep_act k s
  · rw [h]; exact .of_fleet_eq .refl rfl
  · rw [h]; exact hu.fleetRel
  · rw [h]; exact hu.fleetRel

theorem workerStep_fleetRel (s : State) : FleetRel OpChannel s (workerStep s) := by
  obtain ⟨-, -, -, -, -, hsession, -⟩ := workerStep_frame s
  intro c
  by_cases hc : 1 ≤ c ∧ c ≤ 7
  · have hk := hsession ⟨cardIndex c, cardIndex_lt hc⟩
    simp only [Fin.getElem_fin, ← State.chan_eq_fleet _ hc] at hk
    cases hs : s.chan c <;> cases ht : (workerStep s).chan c <;> simp only [hs, ht, SessionKept] at hk
    · exact ⟨fun _ => rfl, fun a ha => (by cases ha)⟩
    · obtain ⟨hb, hrun⟩ := hk
      refine ⟨fun h => (by cases h), fun a ha => ⟨_, rfl, ?_, ?_⟩⟩
      · cases ha
        rw [hb]
      · cases ha
        rcases hrun with hrun | hrun
        · exact .inl hrun
        · exact .inr (.inr (.inr hrun))
  · exact ⟨fun _ => State.chan_outside _ hc, fun a ha => absurd (State.chan_bounds ha) hc⟩

end

/-! ## Nothing restarts (R32, R171) -/

/-- The constants of a channel stay, no counter decreases, and its run state only goes on. -/
def ChannelGrows (a b : Channel) : Prop :=
  b.id = a.id ∧ b.enabled = a.enabled ∧ b.txEndpoint = a.txEndpoint ∧ b.rxEndpoint = a.rxEndpoint ∧
    (a.run = .stopped → b.run = .stopped) ∧ (a.run = .failed → b.run = .failed) ∧
    (a.run = .running → b.run = .running ∨ b.run = .stopped) ∧
    a.txCount ≤ b.txCount ∧ a.txErrors ≤ b.txErrors ∧ a.rxCount ≤ b.rxCount ∧ a.rxDropped ≤ b.rxDropped

theorem ChannelGrows.refl (a : Channel) : ChannelGrows a a :=
  ⟨rfl, rfl, rfl, rfl, id, id, .inl, le_rfl, le_rfl, le_rfl, le_rfl⟩

theorem OpChannel.grows {a b : Channel} (h : OpChannel a b) : ChannelGrows a b := by
  obtain ⟨hb, hrun⟩ := h
  rw [hb]
  refine ⟨rfl, rfl, rfl, rfl, fun ha => ?_, fun ha => ?_, fun ha => ?_, le_rfl, le_rfl, le_rfl, le_rfl⟩ <;>
    simpa [ha] using hrun

section
variable {s t : State}

theorem CardAct.grows {i : Instr} (h : CardAct i s t) : FleetRel ChannelGrows s t := by
  cases h with
  | op hu hr => exact hu.fleetRel.imp fun _ _ => OpChannel.grows
  | parsed b hi h => exact .setChan .refl h rfl (.refl _)
  | answer | unparsed | begun | stopRequest => exact .of_fleet_eq .refl rfl

theorem EventAct.grows (h : EventAct s t) : FleetRel ChannelGrows s t := by
  cases h with
  | keep | lost => exact .of_fleet_eq .refl rfl
  | sent h hr => exact .setChan .refl h rfl ⟨rfl, rfl, rfl, rfl, id, id, .inl, Nat.le_succ _, le_rfl, le_rfl, le_rfl⟩
  | sendFailed h hr => exact .setChan .refl h rfl ⟨rfl, rfl, rfl, rfl, id, id, .inl, le_rfl, Nat.le_succ _, le_rfl, le_rfl⟩
  | received b h hr => exact .setChan .refl h rfl ⟨rfl, rfl, rfl, rfl, id, id, .inl, le_rfl, le_rfl, Nat.le_succ _, le_rfl⟩
  | dropped n h hr => exact .setChan .refl h rfl ⟨rfl, rfl, rfl, rfl, id, id, .inl, le_rfl, le_rfl, le_rfl, Nat.le_succ _⟩

/-- An idle engine's requests are not about the fleet. -/
theorem EngineAct.fleet (h : EngineAct s t) : t.fleet = s.fleet ∧ t.env.txWire = s.env.txWire := by
  cases h with
  | router hu hwf ht hr => rw [hu]; exact ⟨rfl, rfl⟩
  | answer | begun | skipped | sequence | close => exact ⟨rfl, rfl⟩

theorem InputAct.grows {x : Input} (h : InputAct s x t) : FleetRel ChannelGrows s t := by
  cases h with
  | card hd h => exact h.grows
  | engine w hb h => exact .of_fleet_eq .refl h.fleet.1
  | event w h => exact h.grows
  | worker => exact (workerStep_fleetRel s).imp fun _ _ => OpChannel.grows
  | caller k => exact (callerStep_fleetRel k s).imp fun _ _ => OpChannel.grows
  | subjects l => rw [loadSubjects_frame]; exact .of_fleet_eq .refl rfl
  | unread | refused | clock | deliver | carry => exact .of_fleet_eq .refl rfl

end

theorem State.fetched_chan (s : State) (c : Int) : s.fetched.chan c = s.chan c := by
  rw [State.fetched_eq]
  rfl

/-- Settles O55. -/
theorem fleetMapIsConstantAndNothingRestarts : Obligations.FleetMapIsConstantAndNothingRestarts := by
  unfold Obligations.FleetMapIsConstantAndNothingRestarts
  intro s t c h
  exact s.fetched_chan c ▸ (inputAct_of_step h).grows c

/-! ## Who writes what a session has received and sent (R27, R285) -/

/-- The timestamps and counters of a channel are as they were. -/
def SessionSame (a b : Channel) : Prop :=
  b.lastRx = a.lastRx ∧ b.lastTx = a.lastTx ∧ b.txCount = a.txCount ∧ b.txErrors = a.txErrors ∧
    b.rxCount = a.rxCount ∧ b.rxDropped = a.rxDropped ∧ b.rxTimes = a.rxTimes

theorem SessionSame.refl (a : Channel) : SessionSame a a := ⟨rfl, rfl, rfl, rfl, rfl, rfl, rfl⟩

theorem OpChannel.session {a b : Channel} (h : OpChannel a b) : SessionSame a b ∧ b.rf = a.rf := by
  rw [h.1]
  exact ⟨.refl _, rfl⟩

/-- The channels keep their session, and their frames unless the operation is PARSE. -/
theorem CardAct.session {i : Instr} {s t : State} (h : CardAct i s t) :
    FleetRel (fun a b => SessionSame a b ∧ ((∀ d, i ≠ .parse d) → b.rf = a.rf)) s t := by
  have hrefl (a : Channel) : SessionSame a a ∧ ((∀ d, i ≠ .parse d) → a.rf = a.rf) := ⟨.refl a, fun _ => rfl⟩
  cases h with
  | op hu hr => exact hu.fleetRel.imp fun _ _ h => ⟨h.session.1, fun _ => h.session.2⟩
  | parsed b hi h => exact .setChan hrefl h rfl ⟨.refl _, fun hnot => absurd hi (hnot _)⟩
  | answer | unparsed | begun | stopRequest => exact .of_fleet_eq hrefl rfl

/-- An input that is no event keeps the session of every channel. -/
theorem InputAct.session {x : Input} {s t : State} (h : InputAct s x t) (hx : ∀ w, x ≠ .event w) :
    FleetRel (fun a b => SessionSame a b ∧ ((∀ w d, x = .command w → decode w ≠ .ok (.parse d)) → b.rf = a.rf)) s t := by
  have hsame (hf : t.fleet = s.fleet) : FleetRel (fun a b => SessionSame a b ∧
      ((∀ w d, x = .command w → decode w ≠ .ok (.parse d)) → b.rf = a.rf)) s t :=
    .of_fleet_eq (fun a => ⟨.refl a, fun _ => rfl⟩) hf
  have hop (hf : FleetRel OpChannel s t) : FleetRel (fun a b => SessionSame a b ∧
      ((∀ w d, x = .command w → decode w ≠ .ok (.parse d)) → b.rf = a.rf)) s t :=
    hf.imp fun _ _ h => ⟨h.session.1, fun _ => h.session.2⟩
  cases h with
  | card hd h =>
    refine h.session.imp fun a b hab => ⟨hab.1, fun hnot => hab.2 fun d hi => ?_⟩
    exact hnot _ d rfl (hi ▸ hd)
  | engine w hb h => exact hsame h.fleet.1
  | event w h => exact absurd rfl (hx w)
  | worker => exact hop (workerStep_fleetRel s)
  | caller k => exact hop (callerStep_fleetRel k s)
  | subjects l => exact hsame (by rw [loadSubjects_frame])
  | unread | refused | clock | deliver | carry => exact hsame rfl

/-- Settles O56. -/
theorem sessionStateIsWrittenByTheLoops : Obligations.SessionStateIsWrittenByTheLoops := by
  unfold Obligations.SessionStateIsWrittenByTheLoops
  intro s t c a b h hx ha hb
  obtain ⟨b', hb', ⟨h1, h2, h3, h4, h5, h6, h7⟩, hrf⟩ :=
    ((inputAct_of_step h).session hx c).2 a ((s.fetched_chan c).trans ha)
  obtain rfl := Option.some.inj (hb.symm.trans hb')
  exact ⟨h1, h2, h3, h4, h5, h6, h7, hrf⟩

end Sys2Proof.Machine

/-!
PROOFS about a turn of the engine's worker: what a turn can do, said once (R13, R46, R83, R220, R222, R240, R260, R267,
R310).
-/

namespace Sys2Proof.Machine

/-! ## What operations of a step leave of the engine -/

section
variable {s t : State}

theorem FacadeOnly.engine (h : FacadeOnly s t) :
    t.pos = s.pos ∧ t.work = s.work ∧ t.env.now = s.env.now ∧ t.subj = s.subj :=
  ⟨h.pos, h.work, h.now, h.subj⟩

variable (s)

@[simp] theorem digitalWrite_engine (p : FacadePin) (l : Bool) :
    (digitalWrite p l s).2.pos = s.pos ∧ (digitalWrite p l s).2.work = s.work ∧
      (digitalWrite p l s).2.env.now = s.env.now ∧ (digitalWrite p l s).2.subj = s.subj :=
  (digitalWrite_frame p l s).1.engine

@[simp] theorem drivePins_engine (l : Bool) (ps : List FacadePin) :
    (drivePins l ps s).2.pos = s.pos ∧ (drivePins l ps s).2.work = s.work ∧
      (drivePins l ps s).2.env.now = s.env.now ∧ (drivePins l ps s).2.subj = s.subj :=
  (drivePins_frame l ps s).1.engine

@[simp] theorem restorePins_engine (ps : List FacadePin) :
    (restorePins ps s).pos = s.pos ∧ (restorePins ps s).work = s.work ∧
      (restorePins ps s).env.now = s.env.now ∧ (restorePins ps s).subj = s.subj :=
  (restorePins_frame ps s).1.engine

@[simp] theorem restoreLines_engine :
    (restoreLines s).pos = s.pos ∧ (restoreLines s).work = s.work ∧
      (restoreLines s).env.now = s.env.now ∧ (restoreLines s).subj = s.subj :=
  (restoreLines_frame s).1.engine

@[simp] theorem clearAllLines_engine :
    (clearAllLines s).2.pos = s.pos ∧ (clearAllLines s).2.work = s.work ∧
      (clearAllLines s).2.env.now = s.env.now ∧ (clearAllLines s).2.subj = s.subj :=
  (clearAllLines_frame s).1.engine

@[simp] theorem routePin_engine (pin : Int) (sch : Scheme) :
    (routePin pin sch s).2.pos = s.pos ∧ (routePin pin sch s).2.work = s.work ∧
      (routePin pin sch s).2.env.now = s.env.now ∧ (routePin pin sch s).2.subj = s.subj :=
  (routePin_frame pin sch s).1.engine

@[simp] theorem routeClean_engine (pin : Int) (sch : Scheme) :
    (routeClean pin sch s).2.pos = s.pos ∧ (routeClean pin sch s).2.work = s.work ∧
      (routeClean pin sch s).2.env.now = s.env.now ∧ (routeClean pin sch s).2.subj = s.subj :=
  (routeClean_frame pin sch s).1.engine

@[simp] theorem setPullup_engine (k : Nat) (l : Bool) :
    (setPullup k l s).2.pos = s.pos ∧ (setPullup k l s).2.work = s.work ∧
      (setPullup k l s).2.env.now = s.env.now ∧ (setPullup k l s).2.subj = s.subj :=
  digitalWrite_engine s _ l

@[simp] theorem setRelay_engine (k : Nat) (l : Bool) :
    (setRelay k l s).2.pos = s.pos ∧ (setRelay k l s).2.work = s.work ∧
      (setRelay k l s).2.env.now = s.env.now ∧ (setRelay k l s).2.subj = s.subj :=
  drivePins_engine s l _

@[simp] theorem measurePair_engine (k : Nat) :
    (measurePair k s).2.pos = s.pos ∧ (measurePair k s).2.work = s.work ∧
      (measurePair k s).2.env.now = s.env.now ∧ (measurePair k s).2.subj = s.subj :=
  (analogRead_frame _ s).1.engine

@[simp] theorem measure_engine (pin : Int) :
    (measure pin s).2.pos = s.pos ∧ (measure pin s).2.work = s.work ∧
      (measure pin s).2.env.now = s.env.now ∧ (measure pin s).2.subj = s.subj :=
  measurePair_engine s _

end

/-- What a stimulus writes: registers of a channel, and a draw of a tie (R222). -/
theorem applyStimulus_fleetOnly (d : Stimulus) (v : Int) (s : State) :
    (applyStimulus d v s).2 = { s with fleet := (applyStimulus d v s).2.fleet, env := (applyStimulus d v s).2.env } := by
  have hset (c : Int) (f : SendRegs → Except Err SendRegs) (s : State) :
      (fleetSet c f s).2 = { s with fleet := (fleetSet c f s).2.fleet, env := (fleetSet c f s).2.env } := by
    rcases fleetSet_cases c f s with ⟨-, h⟩ | ⟨ch, e, -, -, h⟩ | ⟨ch, r, -, -, h⟩
    · rw [h]
    · rw [h]
    · rw [h]; rfl
  unfold applyStimulus fleetSetAnalog
  split
  · dsimp only
    split
    · exact (hset _ _ _).trans rfl
    · exact (hset _ _ _).trans rfl
  · split
    · exact (hset _ _ _).trans rfl
    · rfl

section
variable (d : Stimulus) (v : Int) (s : State)

@[simp] theorem applyStimulus_kept :
    (applyStimulus d v s).2.pos = s.pos ∧ (applyStimulus d v s).2.work = s.work ∧
      (applyStimulus d v s).2.env.now = s.env.now ∧ (applyStimulus d v s).2.subj = s.subj := by
  obtain ⟨hwork, hpos, -, -, hnow⟩ := applyStimulus_engine d v s
  exact ⟨hpos, hwork, hnow, by rw [applyStimulus_fleetOnly]⟩

@[simp] theorem revertQuiet_kept :
    (revertQuiet d s).pos = s.pos ∧ (revertQuiet d s).work = s.work ∧
      (revertQuiet d s).env.now = s.env.now ∧ (revertQuiet d s).subj = s.subj :=
  applyStimulus_kept d _ s

@[simp] theorem fleetStop_kept (c : Int) :
    (fleetStop c s).2.pos = s.pos ∧ (fleetStop c s).2.work = s.work ∧
      (fleetStop c s).2.env.now = s.env.now ∧ (fleetStop c s).2.subj = s.subj := by
  unfold fleetStop
  split <;> exact ⟨rfl, rfl, rfl, rfl⟩

end

/-- No error becomes the reason `ok` (R222, R230). -/
@[simp] theorem reasonOf_ne_ok (e : Err) : reasonOf e ≠ .ok := by
  unfold reasonOf
  split <;> simp

theorem applyStimulus_reason {d : Stimulus} {v : Int} {s : State} {why : Reason}
    (h : (applyStimulus d v s).1 = some why) : why ≠ .ok := by
  rintro rfl
  have hfail (r : Response) : stimulusFailure r ≠ some .ok := by
    unfold stimulusFailure
    split <;> simp
  unfold applyStimulus at h
  split at h
  · exact hfail _ h
  · split at h
    · exact hfail _ h
    · cases h

/-! ## The calls of a step -/

/-- What the operations of a step leave of the engine; and the calls they make: now, the reads before the writes, and
no read unless the step is one that measures (R83, R223). -/
def Acts (s t : State) : Prop :=
  t.cfg = s.cfg ∧ t.subj = s.subj ∧ t.busy = s.busy ∧ t.responses = s.responses ∧ t.env.now = s.env.now ∧
    ∃ ws rs, t.facade = ws ++ (rs ++ s.facade) ∧
      (∀ c ∈ ws, c.time = s.env.now ∧ c.isWrite = true) ∧ (∀ c ∈ rs, c.time = s.env.now ∧ c.isWrite = false) ∧
      (rs ≠ [] → measuring s.pos s.work.sub = true)

section
variable {s t : State}

@[simp] theorem Acts.refl (s : State) : Acts s s :=
  ⟨rfl, rfl, rfl, rfl, rfl, [], [], rfl, by simp, by simp, by simp⟩

@[simp] theorem Acts.goto (k : Nat) : Acts s (t.goto k) ↔ Acts s t := Iff.rfl
@[simp] theorem Acts.sleep (d : Time) : Acts s (t.sleep d) ↔ Acts s t := Iff.rfl
@[simp] theorem Acts.nextPart : Acts s t.nextPart ↔ Acts s t := Iff.rfl
@[simp] theorem Acts.verdict (p : Bool) (r : Reason) : Acts s (t.verdict p r) ↔ Acts s t := Iff.rfl
@[simp] theorem Acts.failTo (r : Reason) (k : Nat) : Acts s (t.failTo r k) ↔ Acts s t := Iff.rfl
@[simp] theorem Acts.judge (p : Bool) : Acts s (t.judge p) ↔ Acts s t := Iff.rfl
@[simp] theorem Acts.measured (v : Volts) : Acts s (t.measured v) ↔ Acts s t := Iff.rfl
@[simp] theorem Acts.applied : Acts s t.applied ↔ Acts s t := Iff.rfl
@[simp] theorem Acts.beginVerify : Acts s t.beginVerify ↔ Acts s t := Iff.rfl
@[simp] theorem Acts.gated (b : Bool) (r : Reason) : Acts s (t.gated b r) ↔ Acts s t := Iff.rfl
@[simp] theorem Acts.addShort (e : ShortEntry) : Acts s (t.addShort e) ↔ Acts s t := Iff.rfl
@[simp] theorem Acts.setWork (w : Work) : Acts s (t.setWork w) ↔ Acts s t := Iff.rfl
@[simp] theorem Acts.setPos (p : SeqPos) : Acts s (t.setPos p) ↔ Acts s t := Iff.rfl
@[simp] theorem Acts.logDirective : Acts s t.logDirective ↔ Acts s t := Iff.rfl

@[simp] theorem Acts.pullUpVerdict (b : Bool) : Acts s (pullUpVerdict b t) ↔ Acts s t := by
  unfold Machine.pullUpVerdict
  split
  · split <;> exact Iff.rfl
  · exact Iff.rfl

/-- A write comes on top. -/
@[simp] theorem Acts.digitalWrite (h : Acts s t) (p : FacadePin) (l : Bool) : Acts s (digitalWrite p l t).2 := by
  obtain ⟨hcfg, hsubj, hbusy, hresp, hnow, ws, rs, hcalls, hws, hrs⟩ := h
  obtain ⟨hf, -, -⟩ := digitalWrite_frame p l t
  refine ⟨hf.cfg.trans hcfg, hf.subj.trans hsubj, hf.busy.trans hbusy, hf.responses.trans hresp, hf.now.trans hnow,
    .dw t.env.now p l (Machine.digitalWrite p l t).1 :: ws, rs, ?_, ?_, hrs⟩
  · change _ :: t.facade = _
    rw [hcalls]
    rfl
  · intro c hc
    rcases List.mem_cons.1 hc with rfl | hc
    · exact ⟨hnow, rfl⟩
    · exact hws c hc

@[simp] theorem Acts.drivePins (h : Acts s t) (l : Bool) (ps : List FacadePin) : Acts s (drivePins l ps t).2 := by
  induction ps generalizing t with
  | nil => exact h
  | cons p ps ih =>
    simp only [Machine.drivePins]
    split
    · exact ih (h.digitalWrite p l)
    · exact h.digitalWrite p l

@[simp] theorem Acts.restorePins (h : Acts s t) (ps : List FacadePin) : Acts s (restorePins ps t) := by
  induction ps generalizing t with
  | nil => exact h
  | cons p ps ih => exact ih (h.digitalWrite p false)

theorem Acts.driveLines (h : Acts s t) (l : Bool) (is : List (Fin 16)) : Acts s (driveLines l is t).2 := by
  induction is generalizing t with
  | nil => exact h
  | cons i is ih =>
    simp only [Machine.driveLines]
    split
    · exact ih (h.digitalWrite _ l)
    · exact h.digitalWrite _ l

@[simp] theorem Acts.restoreLines (h : Acts s t) : Acts s (restoreLines t) := h.restorePins _

@[simp] theorem Acts.clearAllLines (h : Acts s t) : Acts s (clearAllLines t).2 := h.driveLines _ _

@[simp] theorem Acts.routePin (h : Acts s t) (pin : Int) (sch : Scheme) : Acts s (routePin pin sch t).2 := by
  unfold Machine.routePin
  split
  · exact h
  · exact h.driveLines _ _

@[simp] theorem Acts.routeClean (h : Acts s t) (pin : Int) (sch : Scheme) : Acts s (routeClean pin sch t).2 := by
  unfold Machine.routeClean
  dsimp only
  split
  · exact h.clearAllLines
  · exact h.clearAllLines.routePin pin sch

@[simp] theorem Acts.setPullup (h : Acts s t) (k : Nat) (l : Bool) : Acts s (setPullup k l t).2 := h.digitalWrite _ l

@[simp] theorem Acts.setRelay (h : Acts s t) (k : Nat) (l : Bool) : Acts s (setRelay k l t).2 := h.drivePins l _

@[simp] theorem Acts.applyStimulus (h : Acts s t) (d : Stimulus) (v : Int) : Acts s (applyStimulus d v t).2 := by
  obtain ⟨hcfg, hsubj, hbusy, hresp, hnow, htrace⟩ := h
  obtain ⟨-, -, hnow', -⟩ := applyStimulus_kept d v t
  rw [applyStimulus_fleetOnly]
  exact ⟨hcfg, hsubj, hbusy, hresp, hnow'.trans hnow, htrace⟩

@[simp] theorem Acts.revertQuiet (h : Acts s t) (d : Stimulus) : Acts s (revertQuiet d t) := h.applyStimulus d _

@[simp] theorem Acts.fleetStop (h : Acts s t) (c : Int) : Acts s (fleetStop c t).2 := by
  unfold Machine.fleetStop
  split <;> exact h

/-- Reads, where the step is one that measures. -/
theorem Acts.of_reads (hm : measuring s.pos s.work.sub = true) (hf : FacadeOnly s t) {rs : List FacadeCall}
    (ht : t.facade = rs ++ s.facade) (hrs : ∀ c ∈ rs, c.time = s.env.now ∧ c.isWrite = false) : Acts s t :=
  ⟨hf.cfg, hf.subj, hf.busy, hf.responses, hf.now, [], rs, ht, by simp, hrs, fun _ => hm⟩

@[simp] theorem Acts.measurePair (hm : measuring s.pos s.work.sub = true) (k : Nat) : Acts s (measurePair k s).2 :=
  .of_reads (rs := [_]) hm (analogRead_frame _ s).1 rfl (by simp [FacadeCall.time, FacadeCall.isWrite])

@[simp] theorem Acts.measure (hm : measuring s.pos s.work.sub = true) (pin : Int) : Acts s (measure pin s).2 :=
  .measurePair hm _

/-- F4 measures two channels (R257). -/
@[simp] theorem Acts.measureBoth (hm : measuring s.pos s.work.sub = true) (ka kb : Nat) :
    Acts s (Machine.measurePair kb (Machine.measurePair ka s).2).2 := by
  have ha := (analogRead_frame (measPin s.cfg ka) s).1
  have hb := (analogRead_frame (measPin (Machine.measurePair ka s).2.cfg kb) (Machine.measurePair ka s).2).1
  refine .of_reads (rs := [_, _]) hm (ha.trans hb) rfl fun c hc => ?_
  rcases List.mem_pair.1 hc with rfl | rfl
  · exact ⟨ha.now, rfl⟩
  · exact ⟨rfl, rfl⟩

end

/-! ## Where a check goes on -/

/-- Where a turn leaves a check that goes on: at a legal position of its pipeline; before a step that measures, after
a wait of the settle delay; while a stimulus is applied, with the time of its setter step; past the point where the
verdict is decided, with a verdict that agrees with its reason; and at the restorations of PullUpTest with the reason
of a failure, if there was one (R46, R83, R222, R242, R267). -/
def Moves (s t : State) : Prop :=
  t.pos.phase = s.pos.phase ∧ t.work.inSeq = s.work.inSeq ∧
  (1 ≤ t.pos.step ∧ t.pos.step ≤ lastStep s.pos.phase) ∧
  (t.pos.idx = s.pos.idx ∨ s.pos.phase = .sweep ∧ s.pos.idx < 50 ∧ t.pos.idx = s.pos.idx + 1) ∧
  (t.work.sub ≠ 0 → t.pos = s.pos) ∧
  (measuring t.pos t.work.sub = true → t.work.wake = some (s.env.now + s.cfg.settle)) ∧
  (stimulated t.pos = true → t.work.t0 = s.env.now ∨ (stimulated s.pos = true ∧ t.work.t0 = s.work.t0)) ∧
  (decided t.pos = true → (t.work.pass = true ↔ t.work.reason = .ok) ∨
    (decided s.pos = true ∧ t.work.pass = s.work.pass ∧ t.work.reason = s.work.reason) ∨
    (s.pos.phase = .pullUp ∧ s.pos.step = 11 ∧ s.work.gate = false ∧
      t.work.pass = false ∧ t.work.reason = s.work.reason)) ∧
  (t.pos.phase = .pullUp → t.pos.step = 11 → t.work.gate = false → t.work.reason ≠ .ok ∨
    (s.pos.step = 11 ∧ t.work.gate = s.work.gate ∧ t.work.reason = s.work.reason))

/-- A check goes on: the operations of the step, and where it leaves the check. -/
def Goes (s t : State) : Prop := Acts s t ∧ Moves s t

section
variable {i n sub : Nat}

@[simp] theorem measuring_power : measuring ⟨.power, i, n⟩ sub = decide (n = 4 ∨ (n = 11 ∧ sub = 0)) := rfl
@[simp] theorem measuring_pullUp : measuring ⟨.pullUp, i, n⟩ sub = decide (n = 2 ∨ n = 4 ∨ (n = 10 ∧ sub ≠ 0)) := rfl
@[simp] theorem measuring_logic : measuring ⟨.logic, i, n⟩ sub = false := rfl
@[simp] theorem measuring_sweep : measuring ⟨.sweep, i, n⟩ sub = decide (n = 3 ∨ (n = 4 ∧ sub ≠ 0)) := rfl
@[simp] theorem measuring_relayFuse : measuring ⟨.relayFuse, i, n⟩ sub = decide (n = 4) := rfl

@[simp] theorem stimulated_power : stimulated ⟨.power, i, n⟩ = decide (9 ≤ n ∧ n ≤ 11) := rfl
@[simp] theorem stimulated_pullUp : stimulated ⟨.pullUp, i, n⟩ = decide (9 ≤ n ∧ n ≤ 10) := rfl
@[simp] theorem stimulated_logic : stimulated ⟨.logic, i, n⟩ = false := rfl
@[simp] theorem stimulated_sweep : stimulated ⟨.sweep, i, n⟩ = false := rfl
@[simp] theorem stimulated_relayFuse : stimulated ⟨.relayFuse, i, n⟩ = false := rfl

@[simp] theorem decided_power : decided ⟨.power, i, n⟩ = decide (15 ≤ n) := rfl
@[simp] theorem decided_pullUp : decided ⟨.pullUp, i, n⟩ = decide (12 ≤ n) := rfl
@[simp] theorem decided_logic : decided ⟨.logic, i, n⟩ = decide (8 ≤ n) := rfl
@[simp] theorem decided_sweep : decided ⟨.sweep, i, n⟩ = false := rfl
@[simp] theorem decided_relayFuse : decided ⟨.relayFuse, i, n⟩ = decide (6 ≤ n) := rfl

end

/-- A position by its parts. -/
theorem SeqPos.eq_mk {p : SeqPos} {f : Phase} {n : Nat} (hp : p.phase = f) (hn : p.step = n) : p = ⟨f, p.idx, n⟩ := by
  subst hp hn
  rfl

/-- The reason of a comparison agrees with it. -/
@[simp] theorem judge_ok_iff (p : Bool) : (if p then Reason.ok else .mismatch) = .ok ↔ p = true := by
  cases p <;> simp

section
variable {s : State} {i : Nat} (sub : Subject) (spec : Stimulus) (k : Nat)

/-! ### PowerTest -/

theorem powerP1_goes (hpos : s.pos = ⟨.power, i, 1⟩) : Goes s (powerP1 s) := by
  unfold powerP1
  dsimp only
  split
  · simp [Goes, Moves, lastStep, hpos]
  · simp [Goes, Moves, lastStep, hpos]

theorem powerP2_goes (hpos : s.pos = ⟨.power, i, 2⟩) : Goes s (powerP2 sub s) := by
  unfold powerP2
  dsimp only
  split
  · simp [Goes, Moves, lastStep, hpos]
  · simp [Goes, Moves, lastStep, hpos]

theorem powerP3_goes (hpos : s.pos = ⟨.power, i, 3⟩) : Goes s (powerP3 s) := by
  simp [Goes, Moves, lastStep, hpos, powerP3]

theorem powerP4_goes (hpos : s.pos = ⟨.power, i, 4⟩) : Goes s (powerP4 sub s) := by
  unfold powerP4
  dsimp only
  split
  · simp [Goes, Moves, lastStep, hpos]
  · simp [Goes, Moves, lastStep, hpos]

theorem powerP5_goes (hpos : s.pos = ⟨.power, i, 5⟩) : Goes s (powerP5 sub s) := by
  unfold powerP5
  dsimp only
  split
  · simp [Goes, Moves, lastStep, hpos]
  · simp [Goes, Moves, lastStep, hpos]

theorem powerP6_goes (hpos : s.pos = ⟨.power, i, 6⟩) : Goes s (powerP6 sub s) := by
  unfold powerP6
  split
  · simp [Goes, Moves, lastStep, hpos]
  · simp [Goes, Moves, lastStep, hpos]

theorem powerP7_goes (hpos : s.pos = ⟨.power, i, 7⟩) : Goes s (powerP7 s) := by
  unfold powerP7
  split
  · simp [Goes, Moves, lastStep, hpos]
  · simp [Goes, Moves, lastStep, hpos]

theorem powerP8_goes (hpos : s.pos = ⟨.power, i, 8⟩) : Goes s (powerP8 spec s) := by
  unfold powerP8
  dsimp only
  split
  · simp [Goes, Moves, lastStep, hpos, applyStimulus_reason ‹_›]
  · simp [Goes, Moves, lastStep, hpos]

theorem powerP9_goes (hpos : s.pos = ⟨.power, i, 9⟩) : Goes s (powerP9 spec s) := by
  unfold powerP9
  split
  · simp [Goes, Moves, lastStep, hpos]
  · split
    · simp [Goes, Moves, lastStep, hpos]
    · simp [Goes, Moves, lastStep, hpos]
    · simp [Goes, Moves, lastStep, hpos]
  · simp [Goes, Moves, lastStep, hpos]

theorem powerP10_goes (hpos : s.pos = ⟨.power, i, 10⟩) : Goes s (powerP10 s) := by
  simp [Goes, Moves, lastStep, hpos, powerP10]

theorem powerP11_goes (hpos : s.pos = ⟨.power, i, 11⟩) : Goes s (powerP11 sub spec s) := by
  unfold powerP11
  dsimp only
  split
  · split
    · simp [Goes, Moves, lastStep, hpos, ‹s.work.sub = 0›]
    · simp [Goes, Moves, lastStep, hpos, ‹s.work.sub = 0›]
  · simp [Goes, Moves, lastStep, hpos]

theorem powerP12_goes (hpos : s.pos = ⟨.power, i, 12⟩) : Goes s (powerP12 spec s) := by
  unfold powerP12
  dsimp only
  split
  · split
    · simp [Goes, Moves, lastStep, hpos]
    · simp [Goes, Moves, lastStep, hpos]
  · simp [Goes, Moves, lastStep, hpos]
  · split
    · simp [Goes, Moves, lastStep, hpos]
    · simp [Goes, Moves, lastStep, hpos]

theorem powerP13_goes (hpos : s.pos = ⟨.power, i, 13⟩) : Goes s (powerP13 s) := by
  unfold powerP13
  split
  · simp [Goes, Moves, lastStep, hpos]
  · simp [Goes, Moves, lastStep, hpos]

theorem powerP14_goes (hpos : s.pos = ⟨.power, i, 14⟩) : Goes s (powerP14 sub s) := by
  simp [Goes, Moves, lastStep, hpos, powerP14]

theorem powerP15_goes (hpos : s.pos = ⟨.power, i, 15⟩) : Goes s (powerP15 s) := by
  simp [Goes, Moves, lastStep, hpos, powerP15]

/-! ### PullUpTest -/

theorem pullUpU1_goes (hpos : s.pos = ⟨.pullUp, i, 1⟩) : Goes s (pullUpU1 sub s) := by
  unfold pullUpU1
  dsimp only
  split
  · simp [Goes, Moves, lastStep, hpos]
  · simp [Goes, Moves, lastStep, hpos]

theorem pullUpU2_goes (hpos : s.pos = ⟨.pullUp, i, 2⟩) : Goes s (pullUpU2 sub s) := by
  unfold pullUpU2
  dsimp only
  split
  · simp [Goes, Moves, lastStep, hpos]
  · split
    · simp [Goes, Moves, lastStep, hpos]
    · simp [Goes, Moves, lastStep, hpos]

theorem pullUpU3_goes (hpos : s.pos = ⟨.pullUp, i, 3⟩) : Goes s (pullUpU3 k s) := by
  unfold pullUpU3
  dsimp only
  split
  · simp [Goes, Moves, lastStep, hpos]
  · simp [Goes, Moves, lastStep, hpos, pullUpExit]

theorem pullUpU4_goes (hpos : s.pos = ⟨.pullUp, i, 4⟩) : Goes s (pullUpU4 sub k s) := by
  unfold pullUpU4
  dsimp only
  split
  · simp [Goes, Moves, lastStep, hpos, pullUpExit]
  · simp [Goes, Moves, lastStep, hpos]

theorem pullUpU5_goes (hpos : s.pos = ⟨.pullUp, i, 5⟩) : Goes s (pullUpU5 sub k s) := by
  unfold pullUpU5
  split
  · simp [Goes, Moves, lastStep, hpos]
  · simp [Goes, Moves, lastStep, hpos, pullUpExit]

theorem pullUpU6_goes (hpos : s.pos = ⟨.pullUp, i, 6⟩) : Goes s (pullUpU6 sub k s) := by
  unfold pullUpU6
  dsimp only
  split
  · split
    · simp [Goes, Moves, lastStep, hpos]
    · simp [Goes, Moves, lastStep, hpos]
  · simp [Goes, Moves, lastStep, hpos]

theorem pullUpU7_goes (hpos : s.pos = ⟨.pullUp, i, 7⟩) : Goes s (pullUpU7 sub k s) := by
  unfold pullUpU7
  split
  · simp [Goes, Moves, lastStep, hpos, pullUpExit]
  · split
    · simp [Goes, Moves, lastStep, hpos, pullUpExit]
    · simp [Goes, Moves, lastStep, hpos]

theorem pullUpU8_goes (hpos : s.pos = ⟨.pullUp, i, 8⟩) : Goes s (pullUpU8 spec k s) := by
  unfold pullUpU8
  dsimp only
  split
  · simp [Goes, Moves, lastStep, hpos, pullUpExit, applyStimulus_reason ‹_›]
  · simp [Goes, Moves, lastStep, hpos]

theorem pullUpU9_goes (hpos : s.pos = ⟨.pullUp, i, 9⟩) : Goes s (pullUpU9 spec s) := by
  unfold pullUpU9
  split
  · simp [Goes, Moves, lastStep, hpos]
  · split
    · simp [Goes, Moves, lastStep, hpos]
    · simp [Goes, Moves, lastStep, hpos]
    · simp [Goes, Moves, lastStep, hpos]

theorem pullUpU10_goes (hpos : s.pos = ⟨.pullUp, i, 10⟩) : Goes s (pullUpU10 sub s) := by
  unfold pullUpU10
  dsimp only
  split
  · simp [Goes, Moves, lastStep, hpos, ‹s.work.sub = 0›]
  · split
    · simp [Goes, Moves, lastStep, hpos, ‹¬ s.work.sub = 0›]
    · simp [Goes, Moves, lastStep, hpos, ‹¬ s.work.sub = 0›]

/-- The verdict of U11 agrees with its reason, if the reason of a failure does (R242). -/
theorem pullUpVerdict_goes (hpos : s.pos = ⟨.pullUp, i, 11⟩) {u : State} (h : Acts s u)
    (hu : u.pos = s.pos ∧ u.work = s.work) (b : Bool) : Goes s ((pullUpVerdict b u).goto 12) := by
  obtain ⟨hupos, huwork⟩ := hu
  refine ⟨(Acts.goto _).2 ((Acts.pullUpVerdict b).2 h), ?_⟩
  unfold pullUpVerdict
  split
  · split <;> simp [Moves, lastStep, hpos, hupos, huwork]
  · simp_all [Moves, lastStep]

theorem pullUpU11_goes (hpos : s.pos = ⟨.pullUp, i, 11⟩) : Goes s (pullUpU11 spec k s) := by
  unfold pullUpU11
  dsimp only
  split
  · simp [Goes, Moves, lastStep, hpos]
  · split
    · exact pullUpVerdict_goes hpos (.applyStimulus (.refl s) _ _) ⟨(applyStimulus_kept _ _ s).1, (applyStimulus_kept _ _ s).2.1⟩ _
    · simp [Goes, Moves, lastStep, hpos]
  · simp [Goes, Moves, lastStep, hpos]
  · split
    · simp [Goes, Moves, lastStep, hpos]
    · exact pullUpVerdict_goes hpos (.refl s) ⟨rfl, rfl⟩ _

theorem pullUpU12_goes (hpos : s.pos = ⟨.pullUp, i, 12⟩) : Goes s (pullUpU12 s) := by
  simp [Goes, Moves, lastStep, hpos, pullUpU12]

/-! ### LogicTest -/

theorem logicG1_goes (hpos : s.pos = ⟨.logic, i, 1⟩) : Goes s (logicG1 sub s) := by
  unfold logicG1
  dsimp only
  split
  · simp [Goes, Moves, lastStep, hpos]
  · simp [Goes, Moves, lastStep, hpos]

theorem logicG2_goes (hpos : s.pos = ⟨.logic, i, 2⟩) : Goes s (logicG2 sub s) := by
  unfold logicG2
  split
  · simp [Goes, Moves, lastStep, hpos]
  · split
    · simp [Goes, Moves, lastStep, hpos]
    · simp [Goes, Moves, lastStep, hpos]

theorem logicG3_goes (hpos : s.pos = ⟨.logic, i, 3⟩) : Goes s (logicG3 s) := by
  unfold logicG3
  dsimp only
  split
  · simp [Goes, Moves, lastStep, hpos]
  · simp [Goes, Moves, lastStep, hpos]

theorem logicG4_goes (hpos : s.pos = ⟨.logic, i, 4⟩) : Goes s (logicG4 sub s) := by
  unfold logicG4
  dsimp only
  split
  · split
    · simp [Goes, Moves, lastStep, hpos]
    · simp [Goes, Moves, lastStep, hpos]
  · simp [Goes, Moves, lastStep, hpos]

theorem logicG5_goes (hpos : s.pos = ⟨.logic, i, 5⟩) : Goes s (logicG5 s) := by
  simp [Goes, Moves, lastStep, hpos, logicG5]

theorem logicG6_goes (hpos : s.pos = ⟨.logic, i, 6⟩) : Goes s (logicG6 sub s) := by
  unfold logicG6
  split
  · simp [Goes, Moves, lastStep, hpos]
  · simp [Goes, Moves, lastStep, hpos]

theorem logicG7_goes (hpos : s.pos = ⟨.logic, i, 7⟩) (e : LogicExpectation) : Goes s (logicG7 e s) := by
  unfold logicG7
  split
  · simp [Goes, Moves, lastStep, hpos]
  · simp [Goes, Moves, lastStep, hpos]
  · simp [Goes, Moves, lastStep, hpos]

theorem logicG8_goes (hpos : s.pos = ⟨.logic, i, 8⟩) : Goes s (logicG8 sub s) := by
  simp [Goes, Moves, lastStep, hpos, logicG8]

/-! ### ShortCircuitTest -/

theorem sweepS1_goes (hpos : s.pos = ⟨.sweep, i, 1⟩) : Goes s (sweepS1 s) := by
  unfold sweepS1
  split
  · split
    · simp [Goes, Moves, lastStep, hpos]
    · simp [Goes, Moves, lastStep, hpos]
  · simp [Goes, Moves, lastStep, hpos]

theorem sweepS2_goes (hpos : s.pos = ⟨.sweep, i, 2⟩) : Goes s (sweepS2 k s) := by
  unfold sweepS2
  dsimp only
  split
  · simp [Goes, Moves, lastStep, hpos, sweepFailure]
  · split
    · simp [Goes, Moves, lastStep, hpos]
    · simp [Goes, Moves, lastStep, hpos, sweepFailure]

theorem sweepS3_goes (hpos : s.pos = ⟨.sweep, i, 3⟩) : Goes s (sweepS3 k s) := by
  unfold sweepS3
  dsimp only
  split
  · simp [Goes, Moves, lastStep, hpos, sweepFailure]
  · simp [Goes, Moves, lastStep, hpos]

theorem sweepRoute_goes (hpos : s.pos = ⟨.sweep, i, 4⟩) : Goes s (sweepRoute k s) := by
  unfold sweepRoute
  dsimp only
  split
  · simp [Goes, Moves, lastStep, hpos, sweepFailure]
  · split
    · simp [Goes, Moves, lastStep, hpos, sweepFailure]
    · simp [Goes, Moves, lastStep, hpos]

theorem sweepS5_goes (hpos : s.pos = ⟨.sweep, i, 5⟩) : Goes s (sweepS5 i s) := by
  unfold sweepS5 sweepNext
  split
  · simp_all [Goes, Moves, lastStep]
  · simp [Goes, Moves, lastStep, hpos]

/-! ### RelayFuseTest -/

theorem relayF1_goes (hpos : s.pos = ⟨.relayFuse, i, 1⟩) : Goes s (relayF1 s) := by
  unfold relayF1
  dsimp only
  split
  · simp [Goes, Moves, lastStep, hpos]
  · simp [Goes, Moves, lastStep, hpos]

theorem relayF2_goes (hpos : s.pos = ⟨.relayFuse, i, 2⟩) (ka kb : Nat) : Goes s (relayF2 ka kb s) := by
  unfold relayF2
  dsimp only
  split
  · simp [Goes, Moves, lastStep, hpos]
  · simp [Goes, Moves, lastStep, hpos]

theorem relayF3_goes (hpos : s.pos = ⟨.relayFuse, i, 3⟩) : Goes s (relayF3 s) := by
  simp [Goes, Moves, lastStep, hpos, relayF3]

theorem relayF4_goes (hpos : s.pos = ⟨.relayFuse, i, 4⟩) (ka kb : Nat) : Goes s (relayF4 ka kb s) := by
  unfold relayF4
  dsimp only
  split
  · simp [Goes, Moves, lastStep, hpos]
  · split
    · simp [Goes, Moves, lastStep, hpos]
    · simp [Goes, Moves, lastStep, hpos]

theorem relayF5_goes (hpos : s.pos = ⟨.relayFuse, i, 5⟩) : Goes s (relayF5 s) := by
  simp [Goes, Moves, lastStep, hpos, relayF5]

theorem relayF6_goes (hpos : s.pos = ⟨.relayFuse, i, 6⟩) (ka kb : Nat) : Goes s (relayF6 ka kb s) := by
  simp [Goes, Moves, lastStep, hpos, relayF6]

end

/-! ### S4 and the steps of a pipeline -/

section
variable {s : State} {i : Nat}

theorem sweepAdvance_goes (hpos : s.pos = ⟨.sweep, i, 4⟩) {u : State} (h : Acts s u) (hu : u.pos = s.pos)
    (hw : u.work.inSeq = s.work.inSeq) : Goes s (sweepAdvance u) := by
  unfold sweepAdvance
  split <;> simp [Goes, Moves, lastStep, hpos, hu, hw, h]

theorem sweepS4_goes (hpos : s.pos = ⟨.sweep, i, 4⟩) (p : Nat) : Goes s (sweepS4 p s) := by
  unfold sweepS4
  split
  · exact sweepRoute_goes p hpos
  · have hm : measuring s.pos s.work.sub = true := by simp_all
    have hread : Acts s (measure s.work.inner s).2 := .measure hm _
    obtain ⟨hupos, huwork, -, -⟩ := measure_engine s s.work.inner
    unfold sweepMeasure
    dsimp only
    split
    · simp [Goes, Moves, lastStep, hpos, sweepFailure, hread]
    · split
      · exact sweepAdvance_goes hpos hread hupos (congrArg Work.inSeq huwork)
      · exact sweepAdvance_goes hpos ((Acts.addShort _).2 hread) hupos (by simp)

variable {sub : Subject}

theorem powerStep_goes (hp : s.pos.phase = .power) (h0 : s.pos.step ≠ 0) (hn : s.pos.step < 16) :
    Goes s (powerStep sub s) := by
  unfold powerStep
  split
  · exact powerP1_goes (SeqPos.eq_mk hp ‹_›)
  · exact powerP2_goes sub (SeqPos.eq_mk hp ‹_›)
  · exact powerP3_goes (SeqPos.eq_mk hp ‹_›)
  · exact powerP4_goes sub (SeqPos.eq_mk hp ‹_›)
  · exact powerP5_goes sub (SeqPos.eq_mk hp ‹_›)
  · exact powerP6_goes sub (SeqPos.eq_mk hp ‹_›)
  · exact powerP7_goes (SeqPos.eq_mk hp ‹_›)
  · exact powerP8_goes _ (SeqPos.eq_mk hp ‹_›)
  · exact powerP9_goes _ (SeqPos.eq_mk hp ‹_›)
  · exact powerP10_goes (SeqPos.eq_mk hp ‹_›)
  · exact powerP11_goes sub _ (SeqPos.eq_mk hp ‹_›)
  · exact powerP12_goes _ (SeqPos.eq_mk hp ‹_›)
  · exact powerP13_goes (SeqPos.eq_mk hp ‹_›)
  · exact powerP14_goes sub (SeqPos.eq_mk hp ‹_›)
  · exact powerP15_goes (SeqPos.eq_mk hp ‹_›)
  · grind

theorem pullUpStep_goes (hp : s.pos.phase = .pullUp) (h0 : s.pos.step ≠ 0) (hn : s.pos.step < 13) :
    Goes s (pullUpStep sub s) := by
  unfold pullUpStep
  split
  · exact pullUpU1_goes sub (SeqPos.eq_mk hp ‹_›)
  · exact pullUpU2_goes sub (SeqPos.eq_mk hp ‹_›)
  · exact pullUpU3_goes _ (SeqPos.eq_mk hp ‹_›)
  · exact pullUpU4_goes sub _ (SeqPos.eq_mk hp ‹_›)
  · exact pullUpU5_goes sub _ (SeqPos.eq_mk hp ‹_›)
  · exact pullUpU6_goes sub _ (SeqPos.eq_mk hp ‹_›)
  · exact pullUpU7_goes sub _ (SeqPos.eq_mk hp ‹_›)
  · exact pullUpU8_goes _ _ (SeqPos.eq_mk hp ‹_›)
  · exact pullUpU9_goes _ (SeqPos.eq_mk hp ‹_›)
  · exact pullUpU10_goes sub (SeqPos.eq_mk hp ‹_›)
  · exact pullUpU11_goes _ _ (SeqPos.eq_mk hp ‹_›)
  · exact pullUpU12_goes (SeqPos.eq_mk hp ‹_›)
  · grind

theorem logicStep_goes (hp : s.pos.phase = .logic) (h0 : s.pos.step ≠ 0) (hn : s.pos.step < 9) :
    Goes s (logicStep sub s) := by
  unfold logicStep
  split
  · exact logicG1_goes sub (SeqPos.eq_mk hp ‹_›)
  · exact logicG2_goes sub (SeqPos.eq_mk hp ‹_›)
  · exact logicG3_goes (SeqPos.eq_mk hp ‹_›)
  · exact logicG4_goes sub (SeqPos.eq_mk hp ‹_›)
  · exact logicG5_goes (SeqPos.eq_mk hp ‹_›)
  · exact logicG6_goes sub (SeqPos.eq_mk hp ‹_›)
  · exact logicG7_goes (SeqPos.eq_mk hp ‹_›) _
  · exact logicG8_goes sub (SeqPos.eq_mk hp ‹_›)
  · grind

end

/-! ## What a turn can do -/

/-- The subjects keep their inputs, and no result is taken back (R41, R43). -/
def Recorded (l m : List Subject) : Prop :=
  ∀ (k : Nat) (a : Subject), l[k]? = some a → ∃ b, m[k]? = some b ∧ b.input = a.input ∧
    (a.powerResult ≠ .noResult → b.powerResult ≠ .noResult) ∧
    (a.pullupResult ≠ .noResult → b.pullupResult ≠ .noResult) ∧
    (a.logicResult ≠ .noResult → b.logicResult ≠ .noResult)

theorem Recorded.refl (l : List Subject) : Recorded l l := fun _ a ha => ⟨a, ha, rfl, id, id, id⟩

/-- One subject's record written. -/
theorem Recorded.set {l : List Subject} {i : Nat} {sub sub' : Subject} (hs : l[i]? = some sub)
    (hinput : sub'.input = sub.input) (hpower : sub.powerResult ≠ .noResult → sub'.powerResult ≠ .noResult)
    (hpullup : sub.pullupResult ≠ .noResult → sub'.pullupResult ≠ .noResult)
    (hlogic : sub.logicResult ≠ .noResult → sub'.logicResult ≠ .noResult) : Recorded l (l.set i sub') := by
  intro k a ha
  by_cases hk : i = k
  · subst hk
    obtain rfl := Option.some.inj (hs.symm.trans ha)
    obtain ⟨hlt, -⟩ := List.getElem?_eq_some_iff.1 hs
    exact ⟨sub', by rw [List.getElem?_set_self hlt], hinput, hpower, hpullup, hlogic⟩
  · exact ⟨a, by rw [List.getElem?_set_ne hk]; exact ha, rfl, id, id, id⟩

@[simp] theorem resultOf_ne_noResult (p : Bool) : resultOf p ≠ .noResult := by
  cases p <;> simp [resultOf]

/-- What the engine's next step can do: the check goes on; it returns; the sequence ends, goes on to its next phase,
skips a check (R13, R220, R260, R263). -/
inductive TurnAct (s : State) : State → Prop where
  | idle (h : s.pos.phase = .idle) : TurnAct s s
  | goes {t : State} (h : Goes s t) : TurnAct s t
  | returns (r : CheckResult) {l : List Subject} (hl : Recorded s.subj l)
      (hphase : s.pos.phase ≠ .idle)
      (hr : (r.pass = true ↔ r.reason = .ok) ∨
        (decided s.pos = true ∨ s.pos.phase = .relayFuse ∧ s.pos.step = 0) ∧
          r.pass = s.work.pass ∧ r.reason = s.work.reason) :
      TurnAct s ((s.setSubj l).finish r)
  | ends : TurnAct s s.endSequence
  | enters {p : Phase} (hp : p = .pullUp ∨ p = .logic) : TurnAct s (s.enterPhase p)
  | skips (d : Diagnostic) (hp : s.pos.phase = .power ∨ s.pos.phase = .pullUp ∨ s.pos.phase = .logic) :
      TurnAct s ((s.emit d).setPos { s.pos with idx := s.pos.idx + 1, step := 0 })

section
variable {s : State} {sub : Subject}

theorem TurnAct.phaseDone (hp : s.pos.phase = .power ∨ s.pos.phase = .pullUp ∨ s.pos.phase = .logic) :
    TurnAct s s.phaseDone := by
  unfold State.phaseDone
  rcases hp with hp | hp | hp <;> rw [hp]
  · exact .enters (.inl rfl)
  · exact .enters (.inr rfl)
  · exact .ends

/-- The gate of a sequence: it ends, begins the check or skips it (R260, R262, R263). -/
theorem TurnAct.sequenceGate (sub : Subject)
    (hp : s.pos.phase = .power ∨ s.pos.phase = .pullUp ∨ s.pos.phase = .logic) : TurnAct s (sequenceGate sub s) := by
  unfold Machine.sequenceGate
  split
  · exact .ends
  · split
    · refine .goes ⟨by simp, ?_⟩
      rcases hp with hp | hp | hp <;> simp [Moves, lastStep, hp]
    · exact .skips _ hp

theorem TurnAct.subjectStep {f : Subject → State → State}
    (hp : s.pos.phase = .power ∨ s.pos.phase = .pullUp ∨ s.pos.phase = .logic)
    (hf : ∀ sub, s.subj[s.pos.idx]? = some sub → s.pos.step ≠ 0 → TurnAct s (f sub s)) :
    TurnAct s (subjectStep f s) := by
  unfold Machine.subjectStep
  split
  · exact .phaseDone hp
  · split
    · exact .sequenceGate _ hp
    · exact hf _ ‹_› ‹_›

/-- The last step of a check of a subject: the record is written, and the check returns (R220). -/
theorem TurnAct.record (hp : s.pos.phase = .power ∨ s.pos.phase = .pullUp ∨ s.pos.phase = .logic)
    (hd : decided s.pos = true) {l : List Subject} (hl : Recorded s.subj l) (m : Measured) :
    TurnAct s ((s.setSubj l).finish { measured := m, pass := s.work.pass, reason := s.work.reason }) :=
  .returns _ hl (by rcases hp with hp | hp | hp <;> simp [hp]) (.inr ⟨.inl hd, rfl, rfl⟩)

theorem TurnAct.powerStep (hp : s.pos.phase = .power) (hs : s.subj[s.pos.idx]? = some sub) (h0 : s.pos.step ≠ 0) :
    TurnAct s (powerStep sub s) := by
  by_cases hn : s.pos.step < 16
  · exact .goes (powerStep_goes hp h0 hn)
  · have hstep : Machine.powerStep sub s = powerP16 sub s := by
      unfold Machine.powerStep
      grind
    rw [hstep, powerP16]
    exact .record (.inl hp) (by simp [decided, hp]; omega) (.set hs (by rfl) (by simp) (by simp) (by simp)) _

theorem TurnAct.pullUpStep (hp : s.pos.phase = .pullUp) (hs : s.subj[s.pos.idx]? = some sub)
    (h0 : s.pos.step ≠ 0) : TurnAct s (pullUpStep sub s) := by
  by_cases hn : s.pos.step < 13
  · exact .goes (pullUpStep_goes hp h0 hn)
  · have hstep : Machine.pullUpStep sub s = pullUpU13 sub s := by
      unfold Machine.pullUpStep
      grind
    rw [hstep, pullUpU13]
    exact .record (.inr (.inl hp)) (by simp [decided, hp]; omega) (.set hs (by rfl) (by simp) (by simp) (by simp)) _

theorem TurnAct.logicStep (hp : s.pos.phase = .logic) (hs : s.subj[s.pos.idx]? = some sub) (h0 : s.pos.step ≠ 0) :
    TurnAct s (logicStep sub s) := by
  by_cases hn : s.pos.step < 9
  · exact .goes (logicStep_goes hp h0 hn)
  · have hstep : Machine.logicStep sub s = logicG9 sub s := by
      unfold Machine.logicStep
      grind
    rw [hstep, logicG9]
    exact .record (.inr (.inr hp)) (by simp [decided, hp]; omega) (.set hs (by rfl) (by simp) (by simp) (by simp)) _

theorem TurnAct.sweepStep (hp : s.pos.phase = .sweep) : TurnAct s (sweepStep s) := by
  unfold Machine.sweepStep
  split
  · exact .goes (sweepS1_goes (SeqPos.eq_mk hp ‹_›))
  · exact .goes (sweepS2_goes _ (SeqPos.eq_mk hp ‹_›))
  · exact .goes (sweepS3_goes _ (SeqPos.eq_mk hp ‹_›))
  · exact .goes (sweepS4_goes (SeqPos.eq_mk hp ‹_›) _)
  · exact .goes (sweepS5_goes (SeqPos.eq_mk hp ‹_›))
  · refine .returns _ (.refl _) (by simp [hp]) (.inl ?_)
    cases s.facadeClosed <;> cases s.work.shorts <;> simp

theorem TurnAct.relayStep (hp : s.pos.phase = .relayFuse) : TurnAct s (relayStep s) := by
  unfold Machine.relayStep
  split
  · exact .goes (relayF1_goes (SeqPos.eq_mk hp ‹_›))
  · exact .goes (relayF2_goes (SeqPos.eq_mk hp ‹_›) _ _)
  · exact .goes (relayF3_goes (SeqPos.eq_mk hp ‹_›))
  · exact .goes (relayF4_goes (SeqPos.eq_mk hp ‹_›) _ _)
  · exact .goes (relayF5_goes (SeqPos.eq_mk hp ‹_›))
  · exact .goes (relayF6_goes (SeqPos.eq_mk hp ‹_›) _ _)
  · refine .returns _ (.refl _) (by simp [hp]) (.inr ⟨?_, rfl, rfl⟩)
    by_cases h0 : s.pos.step = 0
    · exact .inr ⟨hp, h0⟩
    · exact .inl (by simp only [decided, hp]; grind)

end

theorem engineStep_act (s : State) : TurnAct s (engineStep s) := by
  unfold engineStep
  split
  · exact .idle ‹_›
  · exact .subjectStep (.inl ‹_›) fun _ hs h0 => .powerStep ‹_› hs h0
  · exact .subjectStep (.inr (.inl ‹_›)) fun _ hs h0 => .pullUpStep ‹_› hs h0
  · exact .subjectStep (.inr (.inr ‹_›)) fun _ hs h0 => .logicStep ‹_› hs h0
  · exact .sweepStep ‹_›
  · exact .relayStep ‹_›

/-- The worker stays where it is, or takes the engine's next step out of its wait (R13). -/
theorem workerStep_act (s : State) : (¬ s.ready ∧ workerStep s = s) ∨ (s.ready ∧ TurnAct s.awake (workerStep s)) := by
  by_cases h : s.ready
  · rw [workerStep_ready h]
    exact .inr ⟨h, engineStep_act _⟩
  · exact .inl ⟨h, workerStep_not_ready h⟩

end Sys2Proof.Machine

/-!
PROOFS of the invariants of the machine: every step keeps them (R32 to R34, R46, R83, R100, R171, R188, R189, R242, R267,
R310), and what is recorded of the subjects stays (R41, R43).
-/

namespace Sys2Proof.Machine

/-! ## Engine-side inputs -/

section
variable {s t : State} {x : Input}

/-- An input leaves the engine alone, or is the worker's turn, a request an idle engine takes, or the loading of a
subject table (R16, R283). -/
theorem InputAct.engine_cases (h : InputAct s x t) : EngineKept s t ∨ (x = .worker ∧ t = workerStep s) ∨
    (s.busy = false ∧ EngineAct s t) ∨ ∃ l, x = .subjects l ∧ t = loadSubjects l s := by
  cases h with
  | card hd h => exact .inl h.engineKept
  | engine w hb h => exact .inr (.inr (.inl ⟨hb, h⟩))
  | event w h => exact .inl h.engineKept
  | worker => exact .inr (.inl ⟨rfl, rfl⟩)
  | caller k => exact .inl (callerStep_engineKept k s)
  | subjects l => exact .inr (.inr (.inr ⟨l, rfl, rfl⟩))
  | unread | refused | clock | deliver | carry => exact .inl (.refl s)

/-- What a returned check leaves (R220, R260). -/
theorem State.finish_cases (s : State) (r : CheckResult) :
    (s.work.inSeq = true ∧
      s.finish r = { s with
        pos := { s.pos with idx := s.pos.idx + 1, step := 0 }, work := { Work.idle with inSeq := true } }) ∨
    (s.work.inSeq = false ∧
      s.finish r = { s with
        busy := false, pos := .idle, work := .idle, responses := .okValue (.check r) :: s.responses }) := by
  cases h : s.work.inSeq with
  | true => exact .inl ⟨rfl, by simp only [State.finish, h]; rfl⟩
  | false => exact .inr ⟨rfl, by simp only [State.finish, h]; rfl⟩

end

/-! ## The position of the engine (R45, R46) -/

section
variable {s t : State} {x : Input}

theorem EngineOk.congr (h : EngineOk s) (hbusy : t.busy = s.busy) (hpos : t.pos = s.pos) (hwork : t.work = s.work) :
    EngineOk t := by
  unfold EngineOk
  rw [hbusy, hpos, hwork]
  exact h

theorem EngineOk.kept (h : EngineOk s) (k : EngineKept s t) : EngineOk t := by
  obtain ⟨-, -, -, -, -, hbusy, hpos, hwork⟩ := k
  exact h.congr hbusy hpos hwork

theorem EngineOk.awake (h : EngineOk s) (hb : s.busy = true) : EngineOk s.awake := by
  obtain ⟨-, hphase, hstep, hsweep, hrelay⟩ := h
  exact ⟨fun hidle => absurd (hb.symm.trans hidle) (by simp), hphase, hstep, hsweep, hrelay⟩

/-- An engine that is idle. -/
theorem EngineOk.of_idle (hb : s.busy = false) (hpos : s.pos = .idle) (hwork : s.work = .idle) : EngineOk s := by
  unfold EngineOk
  rw [hb, hpos, hwork]
  simp [SeqPos.idle, lastStep]

/-- A sequence between two checks. -/
theorem EngineOk.of_between (hb : s.busy = true) (hstep : s.pos.step = 0)
    (hphase : s.pos.phase = .power ∨ s.pos.phase = .pullUp ∨ s.pos.phase = .logic) : EngineOk s := by
  unfold EngineOk
  rw [hb, hstep]
  rcases hphase with hp | hp | hp <;> simp [hp]

/-- A request begins a check at a legal position. -/
theorem EngineOk.of_begins {p : SeqPos} {w : Work} (h : BeginsAt p w) : EngineOk (s.beginCheck p w) := by
  rcases h with ⟨hp, hstep, rfl⟩ | ⟨rfl, rfl⟩ | ⟨hp, hstep, ka, kb, rfl⟩
  · rcases hp with hp | hp | hp <;> simp [EngineOk, hp, hstep, lastStep]
  · simp [EngineOk, lastStep, Work.idle]
  · simp [EngineOk, hp, hstep, lastStep, Work.idle]

theorem EngineAct.engineOk (h : EngineAct s t) (hs : EngineOk s) : EngineOk t := by
  cases h with
  | answer r hr => exact hs
  | router hu hwf ht hr => exact hs.congr hu.busy hu.pos hu.work
  | begun h => exact .of_begins h
  | skipped p k => exact hs
  | sequence => exact .of_between rfl rfl (.inl rfl)
  | close => exact hs

/-- A phase that is neither idle nor one of a check without a subject. -/
theorem phase_of_inSeq (hs : EngineOk s) (hphase : s.pos.phase ≠ .idle) (hseq : s.work.inSeq = true) :
    s.pos.phase = .power ∨ s.pos.phase = .pullUp ∨ s.pos.phase = .logic := by
  obtain ⟨-, -, -, hsweep, hrelay⟩ := hs
  cases hp : s.pos.phase with
  | idle => exact absurd hp hphase
  | power => simp
  | pullUp => simp
  | logic => simp
  | sweep =>
    obtain ⟨-, -, -, hnot⟩ := hsweep hp
    exact absurd (hseq.symm.trans hnot) (by simp)
  | relayFuse => exact absurd (hseq.symm.trans (hrelay hp).2) (by simp)

theorem TurnAct.engineOk (h : TurnAct s t) (hs : EngineOk s) (hb : s.busy = true) : EngineOk t := by
  cases h with
  | idle h => exact hs
  | goes h =>
    obtain ⟨⟨-, -, hbusy, -⟩, hphase, hseq, ⟨hstep, hlast⟩, hidx, -⟩ := h
    obtain ⟨-, hbusy', -, hsweep, hrelay⟩ := hs
    refine ⟨fun hidle => absurd (hb.symm.trans (hbusy.symm.trans hidle)) (by simp),
      fun _ => hphase ▸ hbusy' hb, hphase ▸ hlast, fun hp => ?_, fun hp => ⟨hstep, hseq ▸ (hrelay (hphase ▸ hp)).2⟩⟩
    obtain ⟨-, hlow, hhigh, hnot⟩ := hsweep (hphase ▸ hp)
    refine ⟨hstep, ?_, ?_, hseq ▸ hnot⟩ <;> omega
  | @returns r l hl hphase hr =>
    rcases State.finish_cases (s.setSubj l) r with ⟨hseq, e⟩ | ⟨-, e⟩
    · rw [e]
      exact .of_between hb rfl (phase_of_inSeq (s := s) hs hphase hseq)
    · rw [e]
      exact .of_idle rfl rfl rfl
  | ends => exact .of_idle rfl rfl rfl
  | @enters p hp =>
    refine .of_between hb rfl ?_
    rcases hp with rfl | rfl <;> simp
  | skips d hp => exact .of_between hb rfl hp

theorem workerStep_engineOk (hs : EngineOk s) : EngineOk (workerStep s) := by
  rcases workerStep_act s with ⟨-, e⟩ | ⟨hr, h⟩
  · rw [e]
    exact hs
  · exact h.engineOk (hs.awake hr.1) hr.1

theorem loadSubjects_kept (l : List SubjectInput) (s : State) :
    (loadSubjects l s).busy = s.busy ∧ (loadSubjects l s).pos = s.pos ∧ (loadSubjects l s).work = s.work := by
  rw [loadSubjects_frame]
  exact ⟨rfl, rfl, rfl⟩

theorem InputAct.engineOk (h : InputAct s x t) (hs : EngineOk s) : EngineOk t := by
  rcases h.engine_cases with hk | ⟨-, rfl⟩ | ⟨-, he⟩ | ⟨l, -, rfl⟩
  · exact hs.kept hk
  · exact workerStep_engineOk hs
  · exact he.engineOk hs
  · obtain ⟨hbusy, hpos, hwork⟩ := loadSubjects_kept l s
    exact hs.congr hbusy hpos hwork

end

/-! ## Verdicts (R267) -/

section
variable {s t : State} {x : Input}

/-- All responses so far report sound verdicts. -/
def AnswersSound (s : State) : Prop :=
  ∀ r, Response.okValue (.check r) ∈ s.responses → (r.pass = true ↔ r.reason = .ok)

/-- What `VerdictInv` says of the check in progress. -/
def VerdictOk (s : State) : Prop :=
  (s.busy = true → decided s.pos = true → (s.work.pass = true ↔ s.work.reason = .ok)) ∧
  (s.busy = true → s.pos.phase = .pullUp → s.pos.step = 11 → s.work.gate = false → s.work.reason ≠ .ok)

theorem verdictInv_iff (s : State) : VerdictInv s ↔ EngineOk s ∧ AnswersSound s ∧ VerdictOk s := Iff.rfl

theorem AnswersSound.same (h : AnswersSound s) (e : t.responses = s.responses) : AnswersSound t := by
  unfold AnswersSound
  rw [e]
  exact h

theorem AnswersSound.cons (h : AnswersSound s) {r : Response} (hr : SoundAnswer r)
    (e : t.responses = r :: s.responses) : AnswersSound t := by
  intro x hx
  rw [e] at hx
  rcases List.mem_cons.1 hx with hx | hx
  · exact hr x hx.symm
  · exact h x hx

theorem CardAct.answersSound {i : Instr} (h : CardAct i s t) (hs : AnswersSound s) : AnswersSound t := by
  cases h with
  | answer r hr => exact hs.cons hr rfl
  | @op u r hu hr =>
    refine hs.cons (r := r) ?_ (congrArg _ hu.responses)
    rcases hr with rfl | ⟨b, rfl⟩ <;> simp [SoundAnswer]
  | parsed | unparsed | stopRequest => exact hs.cons (by simp [SoundAnswer]) rfl
  | begun kind => exact hs

theorem EngineAct.answersSound (h : EngineAct s t) (hs : AnswersSound s) : AnswersSound t := by
  cases h with
  | answer r hr => exact hs.cons hr rfl
  | @router u r hu hwf ht hr =>
    refine hs.cons (r := r) ?_ (congrArg _ hu.responses)
    rcases hr with rfl | ⟨j, rfl⟩ <;> simp [SoundAnswer]
  | begun h => exact hs
  | skipped | sequence | close => exact hs.cons (by simp [SoundAnswer]) rfl

theorem callerStep_answersSound (k : Nat) (hs : AnswersSound s) : AnswersSound (callerStep k s) := by
  obtain ⟨u, l, hu, h | h | ⟨r, hr, h⟩⟩ := callerStep_act k s
  · rw [h]; exact hs
  · rw [h]; exact hs.same hu.responses
  · rw [h]; exact hs.cons hr (congrArg _ hu.responses)

/-- A check that returns does so past the point where its verdict is decided. -/
theorem TurnAct.answersSound (h : TurnAct s t) (he : EngineOk s) (hb : s.busy = true) (hs : AnswersSound s)
    (hv : VerdictOk s) : AnswersSound t := by
  cases h with
  | goes h =>
    obtain ⟨⟨-, -, -, hresp, -⟩, -⟩ := h
    exact hs.same hresp
  | @returns r l hl hphase hr =>
    have hsound : r.pass = true ↔ r.reason = .ok := by
      rcases hr with hr | ⟨hd | ⟨hp, h0⟩, hpass, hreason⟩
      · exact hr
      · rw [hpass, hreason]
        exact hv.1 hb hd
      · obtain ⟨-, -, -, -, hrelay⟩ := he
        have := (hrelay hp).1
        omega
    rcases State.finish_cases (s.setSubj l) r with ⟨-, e⟩ | ⟨-, e⟩
    · rw [e]
      exact hs
    · rw [e]
      refine hs.cons (fun y hy => ?_) rfl
      cases hy
      exact hsound
  | idle | ends | enters | skips => exact hs

/-- Where no check is past its verdict. -/
theorem VerdictOk.of_undecided (hd : s.busy = true → decided s.pos = false)
    (h11 : s.busy = true → s.pos.step ≠ 11) : VerdictOk s :=
  ⟨fun hb h => absurd (h.symm.trans (hd hb)) (by simp), fun hb _ h => absurd h (h11 hb)⟩

theorem decided_of_step_zero {p : SeqPos} (h : p.step = 0) : decided p = false := by
  unfold decided
  rw [h]
  split <;> rfl

theorem VerdictOk.congr (h : VerdictOk s) (hbusy : t.busy = s.busy) (hpos : t.pos = s.pos) (hwork : t.work = s.work) :
    VerdictOk t := by
  unfold VerdictOk
  rw [hbusy, hpos, hwork]
  exact h

theorem TurnAct.verdictOk (h : TurnAct s t) (hb : s.busy = true) (hv : VerdictOk s) : VerdictOk t := by
  have hzero (hstep : t.pos.step = 0) : VerdictOk t :=
    .of_undecided (fun _ => decided_of_step_zero hstep) (fun _ => by omega)
  cases h with
  | idle h => exact hv
  | goes h =>
    obtain ⟨-, hphase, -, -, -, -, -, -, hdecided, hgate⟩ := h
    refine ⟨fun _ hd => ?_, fun _ hp h11 hg => ?_⟩
    · rcases hdecided hd with h | ⟨hd', hpass, hreason⟩ | ⟨hp, h11, hg, hpass, hreason⟩
      · exact h
      · rw [hpass, hreason]
        exact hv.1 hb hd'
      · rw [hpass, hreason]
        exact ⟨fun h => (by cases h), fun h => absurd h (hv.2 hb hp h11 hg)⟩
    · rcases hgate hp h11 hg with h | ⟨h11', hgate', hreason⟩
      · exact h
      · rw [hreason]
        exact hv.2 hb (hphase ▸ hp) h11' (hgate' ▸ hg)
  | @returns r l hl hphase hr =>
    rcases State.finish_cases (s.setSubj l) r with ⟨-, e⟩ | ⟨-, e⟩
    · rw [e] at hzero ⊢
      exact hzero rfl
    · rw [e] at hzero ⊢
      exact hzero rfl
  | ends | enters | skips => exact hzero rfl

theorem workerStep_verdict (he : EngineOk s) (hs : AnswersSound s) (hv : VerdictOk s) :
    AnswersSound (workerStep s) ∧ VerdictOk (workerStep s) := by
  rcases workerStep_act s with ⟨-, e⟩ | ⟨hr, h⟩
  · rw [e]
    exact ⟨hs, hv⟩
  · exact ⟨h.answersSound (he.awake hr.1) hr.1 hs hv, h.verdictOk hr.1 hv⟩

theorem EngineAct.verdictOk (h : EngineAct s t) (hv : VerdictOk s) : VerdictOk t := by
  cases h with
  | answer | skipped | close => exact hv
  | router hu hwf ht hr => exact hv.congr hu.busy hu.pos hu.work
  | @begun p w h =>
    have hstep : p.step = 1 := by
      rcases h with ⟨-, h, -⟩ | ⟨rfl, -⟩ | ⟨-, h, -⟩
      · exact h
      · rfl
      · exact h
    refine .of_undecided (fun _ => ?_) (fun _ => by simp [hstep])
    change decided p = false
    unfold decided
    rw [hstep]
    split <;> rfl
  | sequence => exact .of_undecided (fun _ => rfl) (fun _ => by simp)

theorem InputAct.verdictInv (h : InputAct s x t) (hs : VerdictInv s) : VerdictInv t := by
  obtain ⟨he, ha, hv⟩ := hs
  refine ⟨h.engineOk he, ?_⟩
  cases h with
  | card hd h =>
    obtain ⟨-, -, -, -, -, hbusy, hpos, hwork⟩ := h.engineKept
    exact ⟨h.answersSound ha, VerdictOk.congr hv hbusy hpos hwork⟩
  | engine w hb h => exact ⟨h.answersSound ha, h.verdictOk hv⟩
  | event w h =>
    obtain ⟨-, -, -, -, -, hbusy, hpos, hwork⟩ := h.engineKept
    exact ⟨AnswersSound.same ha h.responses, VerdictOk.congr hv hbusy hpos hwork⟩
  | worker => exact workerStep_verdict he ha hv
  | caller k =>
    obtain ⟨-, -, -, -, -, hbusy, hpos, hwork⟩ := callerStep_engineKept k s
    exact ⟨callerStep_answersSound k ha, VerdictOk.congr hv hbusy hpos hwork⟩
  | unread | refused => exact ⟨AnswersSound.cons ha (by simp [SoundAnswer]) rfl, hv⟩
  | clock | deliver | carry => exact ⟨ha, hv⟩
  | subjects l =>
    rw [loadSubjects_frame]
    exact ⟨ha, hv⟩

end

/-- Settles O52. -/
theorem verdictsAreKept : Obligations.VerdictsAreKept := by
  unfold Obligations.VerdictsAreKept
  intro s t h hstep
  refine (inputAct_of_step hstep).verdictInv ?_
  rw [State.fetched_eq]
  exact h

/-! ## The settle barrier (R83, R310) -/

theorem settledTrace_writes {settle : Time} {l ws : List FacadeCall} (hws : ∀ c ∈ ws, c.isWrite = true)
    (h : settledTrace settle l) : settledTrace settle (ws ++ l) := by
  induction ws with
  | nil => exact h
  | cons c ws ih =>
    have hrest := ih fun d hd => hws d (List.mem_cons_of_mem c hd)
    cases c with
    | dw | close => exact hrest
    | ar t p a => exact absurd (hws _ List.mem_cons_self) (by simp [FacadeCall.isWrite])

theorem settledBy_reads {settle t : Time} {l rs : List FacadeCall} (hrs : ∀ c ∈ rs, c.isWrite = false)
    (h : settledBy settle t l) : settledBy settle t (rs ++ l) := by
  intro c hc hw
  rcases List.mem_append.1 hc with hc | hc
  · exact absurd (hw.symm.trans (hrs c hc)) (by simp)
  · exact h c hc hw

theorem settledTrace_reads {settle now : Time} {l rs : List FacadeCall}
    (hrs : ∀ c ∈ rs, c.time = now ∧ c.isWrite = false) (hl : rs ≠ [] → settledBy settle now l)
    (h : settledTrace settle l) : settledTrace settle (rs ++ l) := by
  induction rs with
  | nil => exact h
  | cons c rs ih =>
    have hby := hl (by simp)
    have htail : ∀ d ∈ rs, d.time = now ∧ d.isWrite = false := fun d hd => hrs d (List.mem_cons_of_mem c hd)
    have hrest := ih htail fun _ => hby
    cases c with
    | dw | close => exact hrest
    | ar t p a =>
      obtain ⟨rfl, -⟩ : t = now ∧ _ := hrs _ List.mem_cons_self
      exact ⟨settledBy_reads (fun d hd => (htail d hd).2) hby, hrest⟩

theorem settledBy_mono {settle t u : Time} {l : List FacadeCall} (h : settledBy settle t l) (htu : t ≤ u) :
    settledBy settle u l := fun c hc hw => (h c hc hw).trans htu

/-- A trace made up to now has settled once the settle delay is over. -/
theorem settledBy_of_le {settle now : Time} {l : List FacadeCall} (h : ∀ c ∈ l, c.time ≤ now) :
    settledBy settle (now + settle) l := fun c hc _ => by have := h c hc; linarith

section
variable {s t : State} {x : Input}

/-- Operations of a step keep the barrier, if the step may measure. -/
theorem Acts.settled (h : Acts s t) (htrace : settledTrace s.cfg.settle s.facade)
    (hnow : ∀ c ∈ s.facade, c.time ≤ s.env.now)
    (hm : measuring s.pos s.work.sub = true → settledBy s.cfg.settle s.env.now s.facade) :
    settledTrace t.cfg.settle t.facade ∧ ∀ c ∈ t.facade, c.time ≤ t.env.now := by
  obtain ⟨hcfg, -, -, -, hnow', ws, rs, hcalls, hws, hrs, hread⟩ := h
  rw [hcfg, hcalls, hnow']
  refine ⟨settledTrace_writes (fun c hc => (hws c hc).2) (settledTrace_reads hrs (fun h => hm (hread h)) htrace),
    fun c hc => ?_⟩
  rcases List.mem_append.1 hc with hc | hc
  · exact (hws c hc).1.le
  · rcases List.mem_append.1 hc with hc | hc
    · exact (hrs c hc).1.le
    · exact hnow c hc

/-- Where nothing is stimulated or about to be measured. -/
theorem SettledInv.of_quiet (he : EngineOk t) (htrace : settledTrace t.cfg.settle t.facade)
    (hnow : ∀ c ∈ t.facade, c.time ≤ t.env.now) (hs : t.busy = true → stimulated t.pos = false)
    (hm : t.busy = true → measuring t.pos t.work.sub = false) : SettledInv t :=
  ⟨he, htrace, hnow, fun hb h => absurd (h.symm.trans (hs hb)) (by simp),
    fun hb h => absurd (h.symm.trans (hm hb)) (by simp)⟩

theorem quiet_of_step_zero {p : SeqPos} (sub : Nat) (h : p.step = 0) :
    stimulated p = false ∧ measuring p sub = false := by
  unfold stimulated measuring
  rw [h]
  cases p.phase <;> simp

theorem quiet_of_begins {p : SeqPos} {w : Work} (h : BeginsAt p w) :
    stimulated p = false ∧ measuring p w.sub = false := by
  rcases h with ⟨hp, hstep, rfl⟩ | ⟨rfl, rfl⟩ | ⟨hp, hstep, ka, kb, rfl⟩
  · rcases hp with hp | hp | hp <;> simp [stimulated, measuring, hp, hstep]
  · simp
  · simp [stimulated, measuring, hp, hstep]

/-- The engine as it was, at a later time. -/
theorem SettledInv.kept (h : SettledInv s) (k : EngineKept s t) (hn : s.env.now ≤ t.env.now) : SettledInv t := by
  have he := h.1.kept k
  obtain ⟨hcfg, -, hfacade, -, -, hbusy, hpos, hwork⟩ := k
  obtain ⟨-, htrace, hnow, hset, hwait⟩ := h
  refine ⟨he, ?_, ?_, ?_, ?_⟩
  · rw [hcfg, hfacade]; exact htrace
  · rw [hfacade]; exact fun c hc => (hnow c hc).trans hn
  · rw [hbusy, hpos, hwork]; exact fun hb hs => (hset hb hs).trans hn
  · rw [hbusy, hpos, hwork, hcfg, hfacade]; exact hwait

/-- A ready worker at a step that measures does so after the settle delay (R83). -/
theorem SettledInv.settledNow (h : SettledInv s) (hr : s.ready) (hm : measuring s.pos s.work.sub = true) :
    settledBy s.cfg.settle s.env.now s.facade ∧ (stimulated s.pos = true → s.work.t0 + s.cfg.settle ≤ s.env.now) := by
  obtain ⟨-, -, -, -, hwait⟩ := h
  obtain ⟨w, hwake, hby, hset⟩ := hwait hr.1 hm
  have hw := hr.2 w hwake
  exact ⟨settledBy_mono hby hw, fun hs => (hset hs).trans hw⟩

theorem workerStep_settled (h : SettledInv s) : SettledInv (workerStep s) := by
  have he := workerStep_engineOk h.1
  rcases workerStep_act s with ⟨-, e⟩ | ⟨hr, hact⟩
  · rw [e]
    exact h
  · have hmeasure : measuring s.awake.pos s.awake.work.sub = true → _ := fun hm => (h.settledNow hr hm).1
    obtain ⟨-, htrace, hnow, hset, -⟩ := h
    generalize workerStep s = t at he hact ⊢
    cases hact with
    | idle h =>
      have h' : s.pos.phase = .idle := h
      exact .of_quiet he htrace hnow (by simp [stimulated, h']) (by simp [measuring, h'])
    | goes h =>
      obtain ⟨hacts, -, -, -, -, -, hwake, hsetter, -, -⟩ := h
      obtain ⟨htrace', hnow'⟩ := hacts.settled htrace hnow hmeasure
      obtain ⟨hcfg, -, -, -, hclock, -⟩ := hacts
      have ht0 : stimulated t.pos = true → t.work.t0 ≤ t.env.now := fun hs => by
        rw [hclock]
        rcases hsetter hs with h | ⟨hs', h⟩
        · exact h.le
        · exact h.le.trans (hset hr.1 hs')
      refine ⟨he, htrace', hnow', fun _ => ht0, fun _ hm => ⟨_, hwake hm, ?_, fun hs => ?_⟩⟩
      · rw [← hclock, ← hcfg]
        exact settledBy_of_le hnow'
      · have := ht0 hs
        rw [hclock] at this
        rw [hcfg]
        exact add_le_add_left this _
    | @returns r l hl hphase hr' =>
      rcases State.finish_cases (s.awake.setSubj l) r with ⟨-, e⟩ | ⟨-, e⟩
      · rw [e] at he ⊢
        exact .of_quiet he htrace hnow (fun _ => (quiet_of_step_zero 0 rfl).1) (fun _ => (quiet_of_step_zero _ rfl).2)
      · rw [e] at he ⊢
        exact .of_quiet he htrace hnow (fun _ => rfl) (fun _ => rfl)
    | ends => exact .of_quiet he htrace hnow (fun _ => rfl) (fun _ => rfl)
    | enters | skips =>
      exact .of_quiet he htrace hnow (fun _ => (quiet_of_step_zero 0 rfl).1) (fun _ => (quiet_of_step_zero _ rfl).2)

theorem EngineAct.settled (h : EngineAct s t) (hb : s.busy = false) (hs : SettledInv s) : SettledInv t := by
  have he := h.engineOk hs.1
  obtain ⟨-, htrace, hnow, -, -⟩ := hs
  have hidle {p : Prop} (h : s.busy = true) : p := absurd (h.symm.trans hb) (by simp)
  cases h with
  | answer | skipped => exact .of_quiet he htrace hnow hidle hidle
  | @router u r hu hwf ht hr =>
    obtain ⟨calls, hcalls, hall⟩ := ht
    refine .of_quiet he ?_ ?_ (fun h => hidle (hu.busy ▸ h)) (fun h => hidle (hu.busy ▸ h))
    · change settledTrace u.cfg.settle u.facade
      rw [hcalls, hu.cfg]
      exact settledTrace_writes (fun c hc => (hall c hc).2) htrace
    · change ∀ c ∈ u.facade, c.time ≤ u.env.now
      rw [hcalls, hu.now]
      intro c hc
      rcases List.mem_append.1 hc with hc | hc
      · exact (hall c hc).1.le
      · exact hnow c hc
  | begun h => exact .of_quiet he htrace hnow (fun _ => (quiet_of_begins h).1) (fun _ => (quiet_of_begins h).2)
  | sequence => exact .of_quiet he htrace hnow (fun _ => rfl) (fun _ => rfl)
  | close =>
    refine .of_quiet he htrace (fun c hc => ?_) hidle hidle
    rcases List.mem_cons.1 hc with rfl | hc
    · exact le_refl _
    · exact hnow c hc

theorem InputAct.settledInv (h : InputAct s x t) (hs : SettledInv s) : SettledInv t := by
  rcases h.engine_cases with hk | ⟨-, rfl⟩ | ⟨hb, he⟩ | ⟨l, -, rfl⟩
  · exact hs.kept hk h.now_cfg.1
  · exact workerStep_settled hs
  · exact he.settled hb hs
  · rw [loadSubjects_frame]
    exact hs

end

@[simp] theorem applyStimulus_facade (d : Stimulus) (v : Int) (s : State) :
    (applyStimulus d v s).2.facade = s.facade := by
  rw [applyStimulus_fleetOnly]

@[simp] theorem revertQuiet_facade (d : Stimulus) (s : State) : (revertQuiet d s).facade = s.facade :=
  applyStimulus_facade d _ s

section
variable {s : State} {sub : Subject}

theorem powerP9_facade (spec : Stimulus) : (powerP9 spec s).facade = s.facade := by
  unfold powerP9
  split
  · simp
  · split <;> simp
  · simp

theorem powerStep_quiet (hs : 9 ≤ s.pos.step ∧ s.pos.step ≤ 11) (hm : ¬ (s.pos.step = 11 ∧ s.work.sub = 0)) :
    (powerStep sub s).facade = s.facade := by
  obtain h | h | h : s.pos.step = 9 ∨ s.pos.step = 10 ∨ s.pos.step = 11 := by omega
  · simp only [powerStep, h]
    exact powerP9_facade _
  · simp only [powerStep, h]
    rfl
  · simp only [powerStep, h, powerP11]
    split
    · exact absurd ⟨h, ‹_›⟩ hm
    · simp

theorem pullUpStep_quiet (hs : 9 ≤ s.pos.step ∧ s.pos.step ≤ 10) (hm : ¬ (s.pos.step = 10 ∧ s.work.sub ≠ 0)) :
    (pullUpStep sub s).facade = s.facade := by
  obtain h | h : s.pos.step = 9 ∨ s.pos.step = 10 := by omega
  · simp only [pullUpStep, h, pullUpU9]
    split
    · rfl
    · split <;> rfl
  · have h0 : s.work.sub = 0 := by simpa [h] using hm
    simp only [pullUpStep, h, pullUpU10, h0, if_pos]
    rfl

theorem subjectStep_facade {f : Subject → State → State} (h0 : s.pos.step ≠ 0)
    (hf : ∀ sub, (f sub s).facade = s.facade) : (subjectStep f s).facade = s.facade := by
  unfold subjectStep
  split
  · unfold State.phaseDone
    split <;> rfl
  · rw [if_neg h0]
    exact hf _

/-- While a stimulus is applied, a step that does not measure makes no call (R222, R225). -/
theorem engineStep_quiet (hs : stimulated s.pos = true) (hm : measuring s.pos s.work.sub = false) :
    (engineStep s).facade = s.facade := by
  unfold engineStep
  cases hp : s.pos.phase with
  | idle | logic | sweep | relayFuse => simp [stimulated, hp] at hs
  | power =>
    have hs' : 9 ≤ s.pos.step ∧ s.pos.step ≤ 11 := by simpa [stimulated, hp] using hs
    refine subjectStep_facade (by omega) fun _ => powerStep_quiet hs' fun h => ?_
    simp [measuring, hp, h.1, h.2] at hm
  | pullUp =>
    have hs' : 9 ≤ s.pos.step ∧ s.pos.step ≤ 10 := by simpa [stimulated, hp] using hs
    refine subjectStep_facade (by omega) fun _ => pullUpStep_quiet hs' fun h => ?_
    simp [measuring, hp, h.1, h.2] at hm

/-- A stimulus is measured after its settle delay (R222). -/
theorem stimulus_settled (h : SettledInv s) (hs : stimulated s.pos = true)
    (hcall : ∃ c ∈ (workerStep s).facade, c ∉ s.facade) : s.work.t0 + s.cfg.settle ≤ s.env.now := by
  obtain ⟨c, hc, hnew⟩ := hcall
  by_cases hr : s.ready
  · cases hm : measuring s.pos s.work.sub with
    | true => exact (h.settledNow hr hm).2 hs
    | false =>
      rw [workerStep_ready hr, engineStep_quiet (s := s.awake) hs hm] at hc
      exact absurd hc hnew
  · rw [workerStep_not_ready hr] at hc
    exact absurd hc hnew

/-- P8 and U8 record the time of the setter step (R222). -/
theorem setter_recorded (hp : s.pos.phase = .power ∨ s.pos.phase = .pullUp) (h8 : s.pos.step = 8)
    (h9 : (workerStep s).pos.step = 9) : (workerStep s).work.t0 = s.env.now := by
  rcases workerStep_act s with ⟨-, e⟩ | ⟨hr, hact⟩
  · rw [e] at h9
    omega
  · generalize workerStep s = t at h9 hact ⊢
    cases hact with
    | idle h =>
      have : s.pos.phase = .idle := h
      rcases hp with hp | hp <;> simp [hp] at this
    | goes h =>
      obtain ⟨-, hphase, -, -, -, -, -, hsetter, -, -⟩ := h
      have hphase' : t.pos.phase = s.pos.phase := hphase
      have ht : stimulated t.pos = true := by
        rcases hp with hp | hp <;> simp [stimulated, hphase', hp, h9]
      rcases hsetter ht with h | ⟨hno, -⟩
      · exact h
      · have hno' : stimulated s.pos = true := hno
        rcases hp with hp | hp <;> simp [stimulated, hp, h8] at hno'
    | @returns r l hl hphase hr' =>
      rcases State.finish_cases (s.awake.setSubj l) r with ⟨-, e⟩ | ⟨-, e⟩ <;> rw [e] at h9 <;> cases h9
    | ends | enters | skips => cases h9

end

/-- Settles O51: the worker measures only out of a wait that began after the last write and the stimulus. -/
theorem settleBarrierIsKept : Obligations.SettleBarrierIsKept := by
  unfold Obligations.SettleBarrierIsKept
  refine ⟨fun s t h hstep => (inputAct_of_step hstep).settledInv ?_, fun s h hs hc => stimulus_settled h hs hc,
    fun s hp h8 h9 => setter_recorded hp h8 h9⟩
  rw [State.fetched_eq]
  exact h

end Sys2Proof.Machine

/-!
PROOFS of the invariant of the state, of what holds after reset, and of what is recorded of the subjects (R32 to R49,
R100, R171, R188, R189, R242, R300).
-/

namespace Sys2Proof.Machine

/-! ## Channels -/

theorem imageOf_length (cfg : Cfg) (ch : Channel) : (imageOf cfg ch).length = 32 := rfl

/-- Time passes. -/
theorem ChannelOk.later {cfg : Cfg} {now now' : Time} {c : Nat} {ch : Channel} (h : ChannelOk cfg now c ch)
    (hn : now ≤ now') : ChannelOk cfg now' c ch := by
  obtain ⟨h1, h2, h3, hrx, htick, hrest⟩ := h
  exact ⟨h1, h2, h3, fun t ht => (hrx t ht).trans hn, fun t ht => (htick t ht).trans hn, hrest⟩

/-- What keeps `ChannelOk`, at a time. -/
def KeepsOk (now : Time) (a b : Channel) : Prop := ∀ cfg c, ChannelOk cfg now c a → ChannelOk cfg now c b

theorem KeepsOk.refl (now : Time) (a : Channel) : KeepsOk now a a := fun _ _ h => h

theorem OpChannel.keepsOk {a b : Channel} (now : Time) (h : OpChannel a b) : KeepsOk now a b := by
  intro cfg c ⟨h1, h2, h3, hrx, htick, hhead, hcount, hsome, hrf, htx, hlen, hnone⟩
  obtain ⟨hb, hrun⟩ := h
  rw [hb]
  refine ⟨h1, h2, h3, hrx, htick, hhead, hcount, hsome, hrf, htx, hlen, fun hr => hnone ?_⟩
  rcases hrun with e | ⟨-, e⟩ | ⟨e, -⟩ | ⟨-, e⟩
  · rwa [e] at hr
  · simp [e] at hr
  · exact .inl e
  · simp [e] at hr

section
variable {s t : State} {c : Int} {ch : Channel}

theorem EventAct.keepsOk (h : EventAct s t) : FleetRel (KeepsOk s.env.now) s t := by
  cases h with
  | keep | lost => exact .of_fleet_eq (.refl _) rfl
  | sent h hr =>
    refine .setChan (.refl _) h rfl ?_
    intro cfg c ⟨h1, h2, h3, hrx, htick, hhead, hcount, hsome, hrf, htx, hlen, hnone⟩
    refine ⟨h1, h2, h3, hrx, fun t ht => (Option.some.inj ht).ge, hhead, hcount, hsome, hrf, by simp, fun f hf => ?_, ?_⟩
    · exact Option.some.inj hf ▸ imageOf_length _ _
    · simp [hr]
  | sendFailed h hr =>
    refine .setChan (.refl _) h rfl ?_
    intro cfg c ⟨h1, h2, h3, hrx, htick, hhead, hcount, hsome, hrf, htx, hlen, hnone⟩
    exact ⟨h1, h2, h3, hrx, fun t ht => (Option.some.inj ht).ge, hhead, hcount, hsome, hrf, htx, hlen, by simp [hr]⟩
  | received b h hr =>
    refine .setChan (.refl _) h rfl ?_
    intro cfg c ⟨h1, h2, h3, hrx, htick, hhead, hcount, hsome, hrf, htx, hlen, hnone⟩
    exact ⟨h1, h2, h3, fun t ht => (Option.some.inj ht).ge, htick, rfl, by simp [hcount], by simp, by simp, htx, hlen,
      by simp [hr]⟩
  | dropped n h hr =>
    refine .setChan (.refl _) h rfl ?_
    intro cfg c ⟨h1, h2, h3, hrx, htick, hhead, hcount, hsome, hrf, htx, hlen, hnone⟩
    exact ⟨h1, h2, h3, hrx, htick, hhead, hcount, hsome, hrf, htx, hlen, by simp [hr]⟩

theorem CardAct.keepsOk {i : Instr} (h : CardAct i s t) : FleetRel (KeepsOk s.env.now) s t := by
  cases h with
  | op hu hr => exact hu.fleetRel.imp fun _ _ => OpChannel.keepsOk _
  | parsed b hi h =>
    refine .setChan (.refl _) h rfl ?_
    intro cfg c ⟨h1, h2, h3, hrx, htick, hhead, hcount, hsome, hrf, htx, hlen, hnone⟩
    exact ⟨h1, h2, h3, hrx, htick, hhead, hcount, hsome, fun _ => rfl, htx, hlen, hnone⟩
  | answer | unparsed | begun | stopRequest => exact .of_fleet_eq (.refl _) rfl

theorem InputAct.keepsOk {x : Input} (h : InputAct s x t) : FleetRel (KeepsOk s.env.now) s t := by
  cases h with
  | card hd h => exact h.keepsOk
  | engine w hb h => exact .of_fleet_eq (.refl _) h.fleet.1
  | event w h => exact h.keepsOk
  | worker => exact (workerStep_fleetRel s).imp fun _ _ => OpChannel.keepsOk _
  | caller k => exact (callerStep_fleetRel k s).imp fun _ _ => OpChannel.keepsOk _
  | subjects l => rw [loadSubjects_frame]; exact .of_fleet_eq (.refl _) rfl
  | unread | refused | clock | deliver | carry => exact .of_fleet_eq (.refl _) rfl

theorem FleetOk.step (h : FleetOk s) (hrel : FleetRel (KeepsOk s.env.now) s t) (hcfg : t.cfg = s.cfg)
    (hn : s.env.now ≤ t.env.now) : FleetOk t := by
  intro c h1 h7
  have hc := h c h1 h7
  obtain ⟨hnone, hsome⟩ := hrel c
  rw [hcfg]
  cases hs : s.chan c with
  | none =>
    rw [hs] at hc
    rw [hnone hs]
    exact hc
  | some a =>
    rw [hs] at hc
    obtain ⟨b, hb, hab⟩ := hsome a hs
    rw [hb]
    exact (hab _ _ hc).later hn

end

/-! ## Pins and wires -/

section
variable {s t : State} {x : Input}

theorem InputAct.pins_wf (h : InputAct s x t) (hs : s.pins.wf) : t.pins.wf := by
  rcases h.engine_cases with ⟨-, hpins, -⟩ | ⟨-, rfl⟩ | ⟨-, he⟩ | ⟨l, -, rfl⟩
  · rw [hpins]
    exact hs
  · obtain ⟨-, -, -, -, -, -, -, -, hwf⟩ := workerStep_frame s
    exact hwf hs
  · cases he with
    | router hu hwf ht hr => exact hwf hs
    | answer | begun | skipped | sequence | close => exact hs
  · rw [loadSubjects_frame]
    exact hs

theorem WiresOk.same (h : WiresOk s) (e : t.env.txWire = s.env.txWire) : WiresOk t := by
  unfold WiresOk
  rw [e]
  exact h

theorem takeDatagram_txWire (c : Int) (e : Env) : (e.takeDatagram c).2.txWire = e.txWire := by
  rw [Env.takeDatagram_frame]

theorem EventAct.wiresOk (h : EventAct s t) (hs : WiresOk s) : WiresOk t := by
  have hsend : s.env.drawSend.2.txWire = s.env.txWire := by rw [Env.drawSend_frame]
  cases h with
  | keep => exact hs
  | lost | received | dropped => exact hs.same (takeDatagram_txWire _ _)
  | sendFailed => exact hs.same hsend
  | sent h hr =>
    intro k f hf
    change f ∈ (s.env.drawSend.2.transmit _ _).txWire[k]?.getD [] at hf
    rw [Env.transmit, getElem?_getD_setIfInBounds, hsend] at hf
    split at hf
    · rcases List.mem_append.1 hf with hf | hf
      · exact hs _ f hf
      · rw [List.mem_singleton.1 hf]
        exact imageOf_length _ _
    · exact hs k f hf

theorem InputAct.wiresOk (h : InputAct s x t) (hs : WiresOk s) : WiresOk t := by
  cases h with
  | card hd h =>
    cases h with
    | op hu hr => exact hs.same hu.env.2
    | parsed | unparsed => exact hs.same (takeDatagram_txWire _ _)
    | answer | begun | stopRequest => exact hs
  | engine w hb h => exact hs.same h.fleet.2
  | event w h => exact h.wiresOk hs
  | worker => exact hs.same (workerStep_env s).2
  | caller k => exact hs.same (callerStep_env k s).2
  | subjects l => rw [loadSubjects_frame]; exact hs
  | clock t h | deliver c d h | carry c h => exact fun k f hf => hs k f (h.2.2 k f hf)
  | unread | refused => exact hs

/-! ## The pull-up line of PullUpTest (R240, R242) -/

/-- A line written LOW is not HIGH. -/
theorem setPullup_low (k : Nat) (s : State) : (setPullup k false s).2.pullup k ≠ some true := by
  have hcfg : (setPullup k false s).2.cfg = s.cfg := (digitalWrite_frame _ _ s).1.cfg
  unfold State.pullup
  rw [hcfg]
  change (digitalWrite (pullupPin s.cfg k) false s).2.fp _ ≠ _
  rw [digitalWrite_fp, if_pos rfl]
  split <;> simp

/-- A pin holds what it did where neither the wiring nor the pins changed. -/
theorem pullup_congr (hcfg : t.cfg = s.cfg) (hpins : t.pins = s.pins) (k : Nat) : t.pullup k = s.pullup k := by
  unfold State.pullup State.fp
  rw [hcfg, hpins]

/-- U11 lowers the pull-up line first, and does not raise it (R242). -/
theorem pullUpU11_low (spec : Stimulus) (k : Nat) (h : s.work.sub ≠ 0 → s.pullup k ≠ some true) :
    (pullUpU11 spec k s).pullup k ≠ some true := by
  have hverdict (b : Bool) (u : State) : ((pullUpVerdict b u).goto 12).pullup k = u.pullup k := by
    unfold pullUpVerdict
    split
    · split <;> rfl
    · rfl
  have hstim : (applyStimulus spec (neutral spec.kind) s).2.pullup k = s.pullup k := by
    rw [applyStimulus_fleetOnly]
    rfl
  unfold pullUpU11
  dsimp only
  split
  · exact setPullup_low k s
  · rename_i hsub
    have hlow := h (by omega)
    split
    · rw [hverdict, hstim]
      exact hlow
    · exact hstim.trans_ne hlow
  · rename_i hsub
    exact h (by omega)
  · rename_i h0 _ _
    split
    · exact h h0
    · rw [hverdict]
      exact h h0

theorem workerStep_pullUpOk (hs : PullUpOk s) : PullUpOk (workerStep s) := by
  intro hbusy hphase hstep hsub sub hsubj
  rcases workerStep_act s with ⟨-, e⟩ | ⟨hr, hact⟩
  · rw [e] at hbusy hphase hstep hsub hsubj ⊢
    exact hs hbusy hphase hstep hsub sub hsubj
  · have hturn := hact
    generalize ht : workerStep s = t at *
    cases hact with
    | idle h => exact hs hbusy hphase hstep hsub sub hsubj
    | goes h =>
      obtain ⟨⟨hcfg, hkept, -⟩, -, -, -, -, hpart, -⟩ := h
      have hpos : t.pos = s.pos := hpart hsub
      rw [hpos] at hphase hstep hsubj
      rw [hkept] at hsubj
      obtain ⟨-, hpull, -⟩ := workerStep_subject hr hsubj (by omega)
      have hstep' : s.awake.pos.step = 11 := hstep
      rw [← ht, hpull hphase]
      have hk : (pullUpStep sub s.awake).cfg = s.cfg := by
        rw [← hpull hphase, ht]
        exact hcfg
      simp only [pullUpStep, hstep'] at hk ⊢
      rw [hk]
      exact pullUpU11_low _ _ fun hsub' => hs hr.1 hphase hstep hsub' sub hsubj
    | @returns r l hl hphase' hr' =>
      rcases State.finish_cases (s.awake.setSubj l) r with ⟨-, e⟩ | ⟨-, e⟩ <;> rw [e] at hstep <;> cases hstep
    | ends | enters | skips => cases hstep

theorem PullUpOk.congr (h : PullUpOk s) (k : EngineKept s t) : PullUpOk t := by
  obtain ⟨hcfg, hpins, -, -, hsubj, hbusy, hpos, hwork⟩ := k
  unfold PullUpOk
  rw [hbusy, hpos, hwork, hsubj, hcfg]
  exact fun hb hp h11 hsub sub hs => (pullup_congr hcfg hpins _).trans_ne (h hb hp h11 hsub sub hs)

/-- An idle engine, or one that stands elsewhere. -/
theorem PullUpOk.of_elsewhere (h : s.busy = true → s.pos.step ≠ 11) : PullUpOk s :=
  fun hb _ h11 => absurd h11 (h hb)

theorem EngineAct.pullUpOk (h : EngineAct s t) (hb : s.busy = false) : PullUpOk t := by
  have hidle {p : Prop} (h : s.busy = true) : p := absurd (h.symm.trans hb) (by simp)
  cases h with
  | answer | skipped | close => exact .of_elsewhere hidle
  | router hu hwf ht hr => exact .of_elsewhere fun h => hidle (hu.busy ▸ h)
  | @begun p w h =>
    refine .of_elsewhere fun _ => ?_
    change p.step ≠ 11
    rcases h with ⟨-, hstep, -⟩ | ⟨rfl, -⟩ | ⟨-, hstep, -⟩
    · omega
    · simp
    · omega
  | sequence => exact .of_elsewhere fun _ => by simp

theorem InputAct.pullUpOk (h : InputAct s x t) (hs : PullUpOk s) : PullUpOk t := by
  rcases h.engine_cases with hk | ⟨-, rfl⟩ | ⟨hb, he⟩ | ⟨l, -, rfl⟩
  · exact hs.congr hk
  · exact workerStep_pullUpOk hs
  · exact he.pullUpOk hb
  · unfold loadSubjects
    split
    · exact hs
    · rename_i hb
      exact .of_elsewhere fun h => absurd h hb

/-! ## Operations in progress (R188, R189) -/

/-- What `FleetOpsOk` says of one operation, of a fleet with these channels. -/
def FleetOpOk (s : State) (op : FleetOp) : Prop :=
  1 ≤ op.next ∧ op.next ≤ 7 ∧
    op.started.map Prod.fst =
      if op.kind = .startAll then (List.range' 1 (op.next - 1)).filter fun c : Nat => (s.chan c).isSome else []

theorem FleetOpOk.same {op : FleetOp} (h : FleetOpOk s op) (hc : ∀ c, (t.chan c).isSome = (s.chan c).isSome) :
    FleetOpOk t op := by
  unfold FleetOpOk
  simp only [hc]
  exact h

theorem FleetOpsOk.same (h : FleetOpsOk s) (hops : t.fleetOps = s.fleetOps)
    (hc : ∀ c, (t.chan c).isSome = (s.chan c).isSome) : FleetOpsOk t := by
  intro op hop
  rw [hops] at hop
  exact FleetOpOk.same (h op hop) hc

/-- One more card is taken. -/
theorem FleetOpOk.takeCard {op : FleetOp} (h : FleetOpOk s op) (h7 : op.next < 7) : FleetOpOk s (op.takeCard s).1 := by
  obtain ⟨h1, -, hstarted⟩ := h
  have hrange : List.range' 1 op.next = List.range' 1 (op.next - 1) ++ [op.next] := by
    obtain ⟨n, hn⟩ : ∃ n, op.next = n + 1 := ⟨op.next - 1, by omega⟩
    rw [hn, List.range'_concat]
    simp [Nat.add_comm]
  unfold FleetOp.takeCard
  cases hk : op.kind with
  | stopAll =>
    rw [hk] at hstarted
    exact ⟨by simp, by simpa using h7, by simpa [hk] using hstarted⟩
  | startAll =>
    rw [hk] at hstarted
    refine ⟨by simp, by simpa using h7, ?_⟩
    simp only [if_true, List.map_append, Nat.add_sub_cancel, hrange, List.filter_append] at hstarted ⊢
    rw [hstarted]
    congr 1
    rcases startCard_cases op.next s with ⟨hc, e⟩ | ⟨ch, hc, e⟩ <;> simp [e, hc]

theorem callerStep_isSome (k : Nat) (s : State) (c : Int) : ((callerStep k s).chan c).isSome = (s.chan c).isSome :=
  (callerStep_fleetRel k s).isSome c

theorem callerStep_fleetOpsOk (k : Nat) (hs : FleetOpsOk s) : FleetOpsOk (callerStep k s) := by
  have hsome := callerStep_isSome k s
  rcases callerStep_cases k s with ⟨-, e⟩ | ⟨op, hop, ⟨h7, e⟩ | ⟨-, e⟩⟩
  · rw [e]
    exact hs
  · intro op' hop'
    rw [e] at hop'
    refine FleetOpOk.same ?_ hsome
    rcases List.mem_or_eq_of_mem_set hop' with h | rfl
    · exact hs op' h
    · exact FleetOpOk.takeCard (hs op (List.mem_of_getElem? hop)) h7
  · intro op' hop'
    rw [e] at hop'
    exact FleetOpOk.same (hs op' (List.mem_of_mem_eraseIdx hop')) hsome

theorem OpAct.fleetOps (h : OpAct s t) : t.fleetOps = s.fleetOps := by
  cases h <;> rfl

theorem EventAct.fleetOps (h : EventAct s t) : t.fleetOps = s.fleetOps := by
  cases h <;> rfl

theorem EngineAct.fleetOps (h : EngineAct s t) : t.fleetOps = s.fleetOps := by
  cases h with
  | router hu hwf ht hr => exact hu.fleetOps
  | answer | begun | skipped | sequence | close => rfl

theorem CardAct.fleetOpsOk {i : Instr} (h : CardAct i s t) (hs : FleetOpsOk s) : FleetOpsOk t := by
  have hsome := h.grows.isSome
  cases h with
  | op hu hr => exact hs.same hu.fleetOps hsome
  | answer | parsed | unparsed | stopRequest => exact hs.same rfl hsome
  | begun kind =>
    intro op hop
    rcases List.mem_append.1 hop with hop | hop
    · exact hs op hop
    · rw [List.mem_singleton.1 hop]
      refine ⟨le_refl _, by simp, ?_⟩
      split <;> rfl

theorem InputAct.fleetOpsOk (h : InputAct s x t) (hs : FleetOpsOk s) : FleetOpsOk t := by
  have hsome := h.grows.isSome
  cases h with
  | card hd h => exact h.fleetOpsOk hs
  | engine w hb h => exact hs.same h.fleetOps hsome
  | event w h => exact hs.same h.fleetOps hsome
  | worker =>
    obtain ⟨-, -, -, hops, -⟩ := workerStep_frame s
    exact hs.same hops hsome
  | caller k => exact callerStep_fleetOpsOk k hs
  | subjects l => exact hs.same (by rw [loadSubjects_frame]) hsome
  | unread | refused | clock | deliver | carry => exact hs.same rfl hsome

/-! ## The invariant -/

theorem InputAct.inv (h : InputAct s x t) (hs : Inv s) : Inv t := by
  obtain ⟨hvalid, hwf, hfleet, hengine, hwires, hpull, hops⟩ := hs
  obtain ⟨hnow, hcfg⟩ := h.now_cfg
  exact ⟨hcfg ▸ hvalid, h.pins_wf hwf, hfleet.step h.keepsOk hcfg hnow, h.engineOk hengine, h.wiresOk hwires,
    h.pullUpOk hpull, h.fleetOpsOk hops⟩

end

/-- Settles O50. -/
theorem invariantIsKept : Obligations.InvariantIsKept := by
  unfold Obligations.InvariantIsKept
  intro s t h hstep
  refine (inputAct_of_step hstep).inv ?_
  rw [State.fetched_eq]
  exact h


/-! ## After reset (R49, R300) -/

/-- The channel a card is built with (R38, R185). -/
theorem construct_chan {cfg : Cfg} {subjects : List SubjectInput} {start : Time} {c : Nat} (h1 : 1 ≤ c) (h7 : c ≤ 7) :
    ∃ o, cfg.card[c - 1]? = some o ∧ (State.construct cfg subjects start).chan c = buildChannel c o := by
  obtain ⟨k, rfl⟩ : ∃ k, c = k + 1 := ⟨c - 1, by omega⟩
  have hk : k < 7 := by omega
  refine ⟨cfg.card[k], by simp [hk], ?_⟩
  rw [show ((k + 1 : Nat) : Int) = (k : Int) + 1 by simp, State.chan_succ _ k hk]
  simp [State.construct, buildFleet]

theorem buildChannel_some {c : Nat} {o : Option CardCfg} {ch : Channel} (h : buildChannel c o = some ch) :
    ∃ k, o = some k ∧ k.enabled = true ∧ ch = .fresh c k := by
  cases o with
  | none => cases h
  | some k =>
    cases hk : k.enabled with
    | false => simp [buildChannel, hk] at h
    | true => exact ⟨k, rfl, hk, by simpa [buildChannel, hk] using h.symm⟩

/-- A fresh channel has received and sent nothing (R32 to R34). -/
theorem ChannelOk.fresh {cfg : Cfg} {now : Time} {c : Nat} {k : CardCfg} (hc : cfg.card[c - 1]? = some (some k))
    (hk : k.enabled = true) : ChannelOk cfg now c (.fresh c k) := by
  refine ⟨rfl, hk, ⟨k, hc, hk, rfl, rfl⟩, ?_, ?_, rfl, rfl, ?_, ?_, ?_, ?_, ?_⟩
  all_goals simp [Channel.fresh]

theorem construct_fleetOk (cfg : Cfg) (subjects : List SubjectInput) (start : Time) :
    FleetOk (State.construct cfg subjects start) := by
  intro c h1 h7
  obtain ⟨o, ho, hchan⟩ := construct_chan (cfg := cfg) (subjects := subjects) (start := start) h1 h7
  rw [hchan]
  split
  · obtain ⟨k, rfl, hk, rfl⟩ := buildChannel_some ‹_›
    exact .fresh ho hk
  · rename_i hnone
    intro k hk
    obtain rfl := Option.some.inj (ho.symm.trans hk)
    cases hen : k.enabled with
    | false => rfl
    | true => simp [buildChannel, hen] at hnone

theorem construct_inv {cfg : Cfg} (h : cfg.valid) (subjects : List SubjectInput) (start : Time) :
    Inv (State.construct cfg subjects start) := by
  refine ⟨h, .nil, construct_fleetOk cfg subjects start, .of_idle rfl rfl rfl, ?_, ?_, ?_⟩
  · intro k f hf
    simp [State.construct, Env.reset, Vector.getElem?_replicate] at hf
    split at hf <;> simp at hf
  · exact .of_elsewhere fun hb => by cases hb
  · intro op hop
    cases hop

/-- Settles O53. -/
theorem resetState : Obligations.ResetState := by
  unfold Obligations.ResetState
  have hengine : EngineOk State.reset := .of_idle rfl rfl rfl
  refine ⟨construct_inv Config.platform.valid _ _, ?_, ?_, fun c ch hc => ?_, fun q => rfl, fun sub hsub => ?_,
    rfl, rfl, rfl, rfl⟩
  · exact .of_quiet hengine trivial (fun c hc => by cases hc) (fun hb => by cases hb) (fun hb => by cases hb)
  · exact (verdictInv_iff _).2 ⟨hengine, fun r hr => (by cases hr), .of_undecided (fun hb => by cases hb) (fun hb => by cases hb)⟩
  · obtain ⟨h1, h7⟩ := State.chan_bounds hc
    obtain ⟨n, rfl⟩ := Int.eq_ofNat_of_zero_le (by omega : 0 ≤ c)
    obtain ⟨o, -, hchan⟩ := construct_chan (cfg := Config.platform.cfg) (subjects := Config.subjects)
      (start := Config.startTime) (c := n) (by omega) (by omega)
    obtain ⟨k, -, -, rfl⟩ := buildChannel_some (hchan.symm.trans hc)
    refine ⟨rfl, rfl, rfl, rfl, rfl, fun k q hq => ?_, rfl, rfl, rfl, rfl, rfl, rfl, rfl⟩
    simp [Channel.fresh, SendRegs.reset, Vector.getElem?_replicate] at hq
    exact hq.2.symm
  · obtain ⟨i, -, rfl⟩ := List.mem_map.1 hsub
    exact ⟨rfl, rfl, rfl, rfl, rfl⟩

/-! ## What is recorded of the subjects (R41, R43) -/

section
variable {s t : State} {x : Input}

theorem TurnAct.recorded (h : TurnAct s t) : Recorded s.subj t.subj := by
  cases h with
  | idle | ends | enters | skips => exact .refl _
  | goes h =>
    obtain ⟨⟨-, hsubj, -⟩, -⟩ := h
    rw [hsubj]
    exact .refl _
  | @returns r l hl hphase hr =>
    rcases State.finish_cases (s.setSubj l) r with ⟨-, e⟩ | ⟨-, e⟩ <;> rw [e] <;> exact hl

theorem workerStep_recorded (s : State) : Recorded s.subj (workerStep s).subj := by
  rcases workerStep_act s with ⟨-, e⟩ | ⟨-, h⟩
  · rw [e]
    exact .refl _
  · exact h.recorded

theorem EngineAct.subj (h : EngineAct s t) : t.subj = s.subj := by
  cases h with
  | router hu hwf ht hr => exact hu.subj
  | answer | begun | skipped | sequence | close => rfl

/-- Results are kept; the subjects change by the worker's turns only (R285). -/
theorem InputAct.recorded (h : InputAct s x t) (hx : ∀ l, x ≠ .subjects l) :
    Recorded s.subj t.subj ∧ (x ≠ .worker → t.subj = s.subj) := by
  have hsame (e : t.subj = s.subj) : Recorded s.subj t.subj ∧ (x ≠ .worker → t.subj = s.subj) :=
    ⟨e ▸ .refl _, fun _ => e⟩
  rcases h.engine_cases with ⟨-, -, -, -, hsubj, -⟩ | ⟨rfl, rfl⟩ | ⟨-, he⟩ | ⟨l, rfl, -⟩
  · exact hsame hsubj
  · exact ⟨workerStep_recorded s, fun hne => absurd rfl hne⟩
  · exact hsame he.subj
  · exact absurd rfl (hx l)

end

/-- Settles O58. -/
theorem resultsAreKept : Obligations.ResultsAreKept := by
  unfold Obligations.ResultsAreKept
  refine ⟨fun s t k a hstep hx ha => ?_, fun s l rest hb hagenda => ?_⟩
  · have hfetched : s.fetched.subj = s.subj := by rw [State.fetched_eq]; rfl
    obtain ⟨hrec, hsame⟩ := (inputAct_of_step hstep).recorded hx
    rw [hfetched] at hrec hsame
    obtain ⟨b, hb, hinput, hpower, hpullup, hlogic⟩ := hrec k a ha
    refine ⟨b, hb, hinput, hpower, hpullup, hlogic, fun hne => ?_⟩
    rw [hsame hne, ha] at hb
    exact (Option.some.inj hb).symm
  · simp only [step, fetchInput, hagenda, runInput, loadSubjects]
    rw [if_neg (by simp [hb])]
    rfl

end Sys2Proof.Machine

/-!
PROOFS about the stop request: the worker reads it at the stop points only; and how a sequence goes through its phases
(R229, R260, R262 to R264).
-/

namespace Sys2Proof.Machine

/-! ## Operations do not see the stop request -/

section
variable (b : Bool) (s : State)

theorem ite_setStop (c : Prop) [Decidable c] (x y : State) :
    (if c then x else y).setStop b = if c then x.setStop b else y.setStop b := apply_ite (State.setStop · b) c x y

theorem digitalWrite_setStop (p : FacadePin) (l : Bool) :
    digitalWrite p l (s.setStop b) = ((digitalWrite p l s).1, (digitalWrite p l s).2.setStop b) := rfl

theorem setPullup_setStop (k : Nat) (l : Bool) :
    setPullup k l (s.setStop b) = ((setPullup k l s).1, (setPullup k l s).2.setStop b) := rfl

theorem measurePair_setStop (k : Nat) :
    measurePair k (s.setStop b) = ((measurePair k s).1, (measurePair k s).2.setStop b) := rfl

theorem measure_setStop (pin : Int) :
    measure pin (s.setStop b) = ((measure pin s).1, (measure pin s).2.setStop b) := rfl

theorem drivePins_setStop (l : Bool) (ps : List FacadePin) :
    drivePins l ps (s.setStop b) = ((drivePins l ps s).1, (drivePins l ps s).2.setStop b) := by
  induction ps generalizing s with
  | nil => rfl
  | cons p ps ih =>
    simp only [drivePins, digitalWrite_setStop, ih]
    split <;> rfl

theorem restorePins_setStop (ps : List FacadePin) :
    restorePins ps (s.setStop b) = (restorePins ps s).setStop b := by
  induction ps generalizing s with
  | nil => rfl
  | cons p ps ih => simp only [restorePins, digitalWrite_setStop, ih]

theorem driveLines_setStop (l : Bool) (is : List (Fin 16)) :
    driveLines l is (s.setStop b) = ((driveLines l is s).1, (driveLines l is s).2.setStop b) := by
  induction is generalizing s with
  | nil => rfl
  | cons i is ih =>
    simp only [driveLines, State.setStop_cfg, digitalWrite_setStop, ih]
    split <;> rfl

theorem setRelay_setStop (k : Nat) (l : Bool) :
    setRelay k l (s.setStop b) = ((setRelay k l s).1, (setRelay k l s).2.setStop b) := drivePins_setStop b s l _

theorem clearAllLines_setStop :
    clearAllLines (s.setStop b) = ((clearAllLines s).1, (clearAllLines s).2.setStop b) := driveLines_setStop b s _ _

theorem restoreLines_setStop : restoreLines (s.setStop b) = (restoreLines s).setStop b := restorePins_setStop b s _

theorem routePin_setStop (pin : Int) (sch : Scheme) :
    routePin pin sch (s.setStop b) = ((routePin pin sch s).1, (routePin pin sch s).2.setStop b) := by
  simp only [routePin, State.setStop_cfg, driveLines_setStop]
  split <;> rfl

theorem routeClean_setStop (pin : Int) (sch : Scheme) :
    routeClean pin sch (s.setStop b) = ((routeClean pin sch s).1, (routeClean pin sch s).2.setStop b) := by
  simp only [routeClean, clearAllLines_setStop, routePin_setStop]
  split <;> rfl

theorem fleetSet_setStop (c : Int) (f : SendRegs → Except Err SendRegs) :
    fleetSet c f (s.setStop b) = ((fleetSet c f s).1, (fleetSet c f s).2.setStop b) := by
  simp only [fleetSet, State.chan_congr (State.setStop_fleet s b)]
  split
  · rfl
  · split <;> rfl

theorem applyStimulus_setStop (d : Stimulus) (v : Int) :
    applyStimulus d v (s.setStop b) = ((applyStimulus d v s).1, (applyStimulus d v s).2.setStop b) := by
  have htie (e : Env) : (s.setStop b).setEnv e = (s.setEnv e).setStop b := rfl
  simp only [applyStimulus, fleetSetAnalog, State.chan_congr (State.setStop_fleet s b), State.setStop_cfg,
    State.setStop_env, htie, fleetSet_setStop]
  split
  · split <;> rfl
  · split <;> rfl

theorem revertQuiet_setStop (d : Stimulus) : revertQuiet d (s.setStop b) = (revertQuiet d s).setStop b := by
  simp only [revertQuiet, applyStimulus_setStop]

theorem fleetStop_setStop (c : Int) :
    fleetStop c (s.setStop b) = ((fleetStop c s).1, (fleetStop c s).2.setStop b) := by
  simp only [fleetStop, State.chan_congr (State.setStop_fleet s b)]
  split <;> rfl

theorem verifyPoll_setStop (d : Stimulus) (want : Int) : verifyPoll d want (s.setStop b) = verifyPoll d want s := rfl

theorem pullUpVerdict_setStop (r : Bool) : pullUpVerdict r (s.setStop b) = (pullUpVerdict r s).setStop b := by
  simp only [pullUpVerdict, ite_setStop]
  rfl

theorem finish_setStop (r : CheckResult) : (s.setStop b).finish r = (s.finish r).setStop b := by
  simp only [State.finish, ite_setStop]
  rfl

theorem phaseDone_setStop : (s.setStop b).phaseDone = s.phaseDone.setStop b := by
  simp only [State.phaseDone, State.setStop_pos]
  split <;> rfl

/-! ## Nor do the steps -/

theorem powerP1_setStop : powerP1 (s.setStop b) = (powerP1 s).setStop b := by
  simp only [powerP1, clearAllLines_setStop]
  split <;> rfl

theorem powerP2_setStop (sub : Subject) : powerP2 sub (s.setStop b) = (powerP2 sub s).setStop b := by
  simp only [powerP2, routePin_setStop]
  split <;> rfl

theorem powerP3_setStop : powerP3 (s.setStop b) = (powerP3 s).setStop b := rfl

theorem powerP4_setStop (sub : Subject) : powerP4 sub (s.setStop b) = (powerP4 sub s).setStop b := by
  simp only [powerP4, measure_setStop]
  split <;> rfl

theorem powerP5_setStop (sub : Subject) : powerP5 sub (s.setStop b) = (powerP5 sub s).setStop b := by
  simp only [powerP5]
  split <;> rfl

theorem powerP6_setStop (sub : Subject) : powerP6 sub (s.setStop b) = (powerP6 sub s).setStop b := by
  simp only [powerP6, State.setStop_work]
  split <;> rfl

theorem powerP7_setStop : powerP7 (s.setStop b) = (powerP7 s).setStop b := by
  simp only [powerP7, ite_setStop]
  rfl

theorem powerP8_setStop (spec : Stimulus) : powerP8 spec (s.setStop b) = (powerP8 spec s).setStop b := by
  simp only [powerP8, applyStimulus_setStop]
  split <;> rfl

theorem powerP9_setStop (spec : Stimulus) : powerP9 spec (s.setStop b) = (powerP9 spec s).setStop b := by
  simp only [powerP9, State.setStop_work, verifyPoll_setStop, revertQuiet_setStop]
  split
  · rfl
  · split <;> rfl
  · rfl

theorem powerP10_setStop : powerP10 (s.setStop b) = (powerP10 s).setStop b := rfl

theorem powerP11_setStop (sub : Subject) (spec : Stimulus) : powerP11 sub spec (s.setStop b) = (powerP11 sub spec s).setStop b := by
  simp only [powerP11, State.setStop_work, measure_setStop, revertQuiet_setStop]
  split
  · split <;> rfl
  · rfl

theorem powerP12_setStop (spec : Stimulus) : powerP12 spec (s.setStop b) = (powerP12 spec s).setStop b := by
  simp only [powerP12, State.setStop_work, verifyPoll_setStop, applyStimulus_setStop]
  split
  · split <;> rfl
  · rfl
  · split <;> rfl

theorem powerP13_setStop : powerP13 (s.setStop b) = (powerP13 s).setStop b := by
  simp only [powerP13, ite_setStop]
  rfl

theorem powerP14_setStop (sub : Subject) : powerP14 sub (s.setStop b) = (powerP14 sub s).setStop b := rfl

theorem powerP15_setStop : powerP15 (s.setStop b) = (powerP15 s).setStop b := by
  simp only [powerP15, restoreLines_setStop]
  rfl

theorem pullUpExit_setStop (k : Nat) (why : Reason) : pullUpExit k why (s.setStop b) = (pullUpExit k why s).setStop b := rfl

theorem pullUpU1_setStop (sub : Subject) : pullUpU1 sub (s.setStop b) = (pullUpU1 sub s).setStop b := by
  simp only [pullUpU1, routeClean_setStop]
  split <;> rfl

theorem pullUpU2_setStop (sub : Subject) : pullUpU2 sub (s.setStop b) = (pullUpU2 sub s).setStop b := by
  simp only [pullUpU2, measure_setStop]
  split
  · rfl
  · rw [ite_setStop]
    rfl

theorem pullUpU3_setStop (k : Nat) : pullUpU3 k (s.setStop b) = (pullUpU3 k s).setStop b := by
  simp only [pullUpU3, setPullup_setStop, pullUpExit_setStop, ite_setStop]
  rfl

theorem pullUpU4_setStop (sub : Subject) (k : Nat) : pullUpU4 sub k (s.setStop b) = (pullUpU4 sub k s).setStop b := by
  simp only [pullUpU4, measure_setStop, pullUpExit_setStop]
  split <;> rfl

theorem pullUpU5_setStop (sub : Subject) (k : Nat) : pullUpU5 sub k (s.setStop b) = (pullUpU5 sub k s).setStop b := by
  simp only [pullUpU5, ite_setStop]
  rfl

theorem pullUpU6_setStop (sub : Subject) (k : Nat) : pullUpU6 sub k (s.setStop b) = (pullUpU6 sub k s).setStop b := by
  simp only [pullUpU6, setPullup_setStop, ite_setStop]
  rfl

theorem pullUpU7_setStop (sub : Subject) (k : Nat) : pullUpU7 sub k (s.setStop b) = (pullUpU7 sub k s).setStop b := by
  simp only [pullUpU7]
  split
  · rfl
  · split <;> rfl

theorem pullUpU8_setStop (spec : Stimulus) (k : Nat) : pullUpU8 spec k (s.setStop b) = (pullUpU8 spec k s).setStop b := by
  simp only [pullUpU8, applyStimulus_setStop, pullUpExit_setStop]
  split <;> rfl

theorem pullUpU9_setStop (spec : Stimulus) : pullUpU9 spec (s.setStop b) = (pullUpU9 spec s).setStop b := by
  simp only [pullUpU9, ite_setStop, verifyPoll_setStop]
  refine if_congr Iff.rfl rfl ?_
  split <;> rfl

theorem pullUpU10_setStop (sub : Subject) : pullUpU10 sub (s.setStop b) = (pullUpU10 sub s).setStop b := by
  simp only [pullUpU10, ite_setStop, measure_setStop]
  refine if_congr Iff.rfl rfl ?_
  split <;> rfl

theorem pullUpU11_setStop (spec : Stimulus) (k : Nat) : pullUpU11 spec k (s.setStop b) = (pullUpU11 spec k s).setStop b := by
  simp only [pullUpU11, State.setStop_work, setPullup_setStop, applyStimulus_setStop, verifyPoll_setStop, pullUpVerdict_setStop]
  split
  · rfl
  · split <;> rfl
  · rfl
  · split <;> rfl

theorem pullUpU12_setStop : pullUpU12 (s.setStop b) = (pullUpU12 s).setStop b := by
  simp only [pullUpU12, restoreLines_setStop]
  rfl

theorem logicG1_setStop (sub : Subject) : logicG1 sub (s.setStop b) = (logicG1 sub s).setStop b := by
  simp only [logicG1, routeClean_setStop]
  split <;> rfl

theorem logicG2_setStop (sub : Subject) : logicG2 sub (s.setStop b) = (logicG2 sub s).setStop b := by
  simp only [logicG2, State.setStop_subj]
  split
  · rfl
  · rw [ite_setStop]
    rfl

theorem logicG3_setStop : logicG3 (s.setStop b) = (logicG3 s).setStop b := by
  simp only [logicG3, State.setStop_work, routePin_setStop]
  split <;> rfl

theorem logicG5_setStop : logicG5 (s.setStop b) = (logicG5 s).setStop b := rfl

theorem logicG6_setStop (sub : Subject) : logicG6 sub (s.setStop b) = (logicG6 sub s).setStop b := by
  simp only [logicG6]
  split <;> rfl

theorem sweepFailure_setStop (p : Nat) : sweepFailure p (s.setStop b) = (sweepFailure p s).setStop b := rfl

theorem sweepS2_setStop (p : Nat) : sweepS2 p (s.setStop b) = (sweepS2 p s).setStop b := by
  simp only [sweepS2, routeClean_setStop, setPullup_setStop, sweepFailure_setStop]
  split
  · rfl
  · rw [ite_setStop]
    rfl

theorem sweepS3_setStop (p : Nat) : sweepS3 p (s.setStop b) = (sweepS3 p s).setStop b := by
  simp only [sweepS3, measure_setStop, State.setStop_cfg, sweepFailure_setStop]
  split <;> rfl

theorem sweepRoute_setStop (p : Nat) : sweepRoute p (s.setStop b) = (sweepRoute p s).setStop b := by
  simp only [sweepRoute, routeClean_setStop, State.setStop_work, routePin_setStop, sweepFailure_setStop]
  split
  · rfl
  · split <;> rfl

theorem sweepAdvance_setStop : sweepAdvance (s.setStop b) = (sweepAdvance s).setStop b := by
  simp only [sweepAdvance, ite_setStop]
  rfl

theorem sweepNext_setStop (p : Nat) : sweepNext p (s.setStop b) = (sweepNext p s).setStop b := by
  simp only [sweepNext, ite_setStop]
  rfl

theorem relayF1_setStop : relayF1 (s.setStop b) = (relayF1 s).setStop b := by
  simp only [relayF1, State.setStop_work, fleetStop_setStop, ite_setStop]
  rfl

theorem relayF2_setStop (ka kb : Nat) : relayF2 ka kb (s.setStop b) = (relayF2 ka kb s).setStop b := by
  simp only [relayF2, State.setStop_cfg, drivePins_setStop, ite_setStop]
  rfl

theorem relayF3_setStop : relayF3 (s.setStop b) = (relayF3 s).setStop b := rfl

theorem relayF4_setStop (ka kb : Nat) : relayF4 ka kb (s.setStop b) = (relayF4 ka kb s).setStop b := by
  simp only [relayF4, measurePair_setStop]
  split
  · rfl
  · split <;> rfl

theorem relayF5_setStop : relayF5 (s.setStop b) = (relayF5 s).setStop b := rfl

theorem relayF6_setStop (ka kb : Nat) : relayF6 ka kb (s.setStop b) = (relayF6 ka kb s).setStop b := by
  simp only [relayF6, State.setStop_cfg, restorePins_setStop, restoreLines_setStop]
  rfl

theorem logicG4_setStop (sub : Subject) : logicG4 sub (s.setStop b) = (logicG4 sub s).setStop b := by
  have hwork (w : Work) (t : State) : (t.setStop b).setWork w = (t.setWork w).setStop b := rfl
  simp only [logicG4, State.setStop_work, State.setStop_cfg, hwork, setRelay_setStop, ite_setStop]
  rfl

theorem logicG7_setStop (e : LogicExpectation) : logicG7 e (s.setStop b) = (logicG7 e s).setStop b := by
  have hget (f : Channel → Response) : fleetGet e.card f (s.setStop b) = fleetGet e.card f s := rfl
  simp only [logicG7, hget]
  split <;> rfl

theorem logicG8_setStop (sub : Subject) : logicG8 sub (s.setStop b) = (logicG8 sub s).setStop b := by
  simp only [logicG8, State.setStop_work, State.setStop_cfg, restorePins_setStop, restoreLines_setStop]
  rfl

theorem sweepMeasure_setStop (p : Nat) : sweepMeasure p (s.setStop b) = (sweepMeasure p s).setStop b := by
  have hadd (e : ShortEntry) (t : State) : (t.setStop b).addShort e = (t.addShort e).setStop b := rfl
  simp only [sweepMeasure, State.setStop_work, measure_setStop, sweepFailure_setStop, hadd, sweepAdvance_setStop]
  split
  · rfl
  · rw [ite_setStop]
    rfl

theorem sweepS4_setStop (p : Nat) : sweepS4 p (s.setStop b) = (sweepS4 p s).setStop b := by
  simp only [sweepS4, sweepRoute_setStop, sweepMeasure_setStop, ite_setStop]
  rfl

theorem sweepS5_setStop (p : Nat) : sweepS5 p (s.setStop b) = (sweepS5 p s).setStop b := by
  simp only [sweepS5, State.setStop_cfg, setPullup_setStop, restoreLines_setStop, sweepNext_setStop]

theorem powerP16_setStop (sub : Subject) : powerP16 sub (s.setStop b) = (powerP16 sub s).setStop b :=
  finish_setStop b (s.setSubj _) _

theorem pullUpU13_setStop (sub : Subject) : pullUpU13 sub (s.setStop b) = (pullUpU13 sub s).setStop b :=
  finish_setStop b (s.setSubj _) _

theorem logicG9_setStop (sub : Subject) : logicG9 sub (s.setStop b) = (logicG9 sub s).setStop b :=
  finish_setStop b (s.setSubj _) _

theorem sweepS7_setStop : sweepS7 (s.setStop b) = (sweepS7 s).setStop b := finish_setStop b s _

theorem relayF7_setStop : relayF7 (s.setStop b) = (relayF7 s).setStop b := finish_setStop b s _

theorem powerStep_setStop (sub : Subject) : powerStep sub (s.setStop b) = (powerStep sub s).setStop b := by
  simp only [powerStep, State.setStop_pos, State.setStop_work]
  split
  · exact powerP1_setStop b s
  · exact powerP2_setStop b s sub
  · exact powerP3_setStop b s
  · exact powerP4_setStop b s sub
  · exact powerP5_setStop b s sub
  · exact powerP6_setStop b s sub
  · exact powerP7_setStop b s
  · exact powerP8_setStop b s _
  · exact powerP9_setStop b s _
  · exact powerP10_setStop b s
  · exact powerP11_setStop b s sub _
  · exact powerP12_setStop b s _
  · exact powerP13_setStop b s
  · exact powerP14_setStop b s sub
  · exact powerP15_setStop b s
  · exact powerP16_setStop b s sub

theorem pullUpStep_setStop (sub : Subject) : pullUpStep sub (s.setStop b) = (pullUpStep sub s).setStop b := by
  simp only [pullUpStep, State.setStop_pos, State.setStop_work, State.setStop_cfg]
  split
  · exact pullUpU1_setStop b s sub
  · exact pullUpU2_setStop b s sub
  · exact pullUpU3_setStop b s _
  · exact pullUpU4_setStop b s sub _
  · exact pullUpU5_setStop b s sub _
  · exact pullUpU6_setStop b s sub _
  · exact pullUpU7_setStop b s sub _
  · exact pullUpU8_setStop b s _ _
  · exact pullUpU9_setStop b s _
  · exact pullUpU10_setStop b s sub
  · exact pullUpU11_setStop b s _ _
  · exact pullUpU12_setStop b s
  · exact pullUpU13_setStop b s sub

theorem logicStep_setStop (sub : Subject) : logicStep sub (s.setStop b) = (logicStep sub s).setStop b := by
  simp only [logicStep, State.setStop_pos]
  split
  · exact logicG1_setStop b s sub
  · exact logicG2_setStop b s sub
  · exact logicG3_setStop b s
  · exact logicG4_setStop b s sub
  · exact logicG5_setStop b s
  · exact logicG6_setStop b s sub
  · exact logicG7_setStop b s _
  · exact logicG8_setStop b s sub
  · exact logicG9_setStop b s sub

theorem sweepStep_setStop (h1 : s.pos.step ≠ 1) : sweepStep (s.setStop b) = (sweepStep s).setStop b := by
  simp only [sweepStep, State.setStop_pos]
  split
  · exact absurd ‹_› h1
  · exact sweepS2_setStop b s _
  · exact sweepS3_setStop b s _
  · exact sweepS4_setStop b s _
  · exact sweepS5_setStop b s _
  · exact sweepS7_setStop b s

theorem relayStep_setStop : relayStep (s.setStop b) = (relayStep s).setStop b := by
  simp only [relayStep, State.setStop_pos, State.setStop_work]
  split
  · exact relayF1_setStop b s
  · exact relayF2_setStop b s _ _
  · exact relayF3_setStop b s
  · exact relayF4_setStop b s _ _
  · exact relayF5_setStop b s
  · exact relayF6_setStop b s _ _
  · exact relayF7_setStop b s

theorem subjectStep_setStop {f : Subject → State → State} (h0 : s.pos.step ≠ 0)
    (hf : ∀ sub, f sub (s.setStop b) = (f sub s).setStop b) :
    subjectStep f (s.setStop b) = (subjectStep f s).setStop b := by
  simp only [subjectStep, State.setStop_pos, State.setStop_subj, if_neg h0, hf, phaseDone_setStop]
  split <;> rfl

theorem phaseDone_step {f : Subject → State → State} (h : s.subj[s.pos.idx]? = none) : subjectStep f s = s.phaseDone := by
  unfold subjectStep
  rw [h]

/-- Away from the stop points the engine's next step does not see the stop request (R263). -/
theorem engineStep_setStop (h : ¬ atStopPoint s) : engineStep (s.setStop b) = (engineStep s).setStop b := by
  have hsweep (hp : s.pos.phase = .sweep) : s.pos.step ≠ 1 := fun h1 => h (.inl ⟨hp, h1⟩)
  have hsub (hp : s.pos.phase = .power ∨ s.pos.phase = .pullUp ∨ s.pos.phase = .logic) : s.pos.step ≠ 0 :=
    fun h0 => h (.inr ⟨hp, h0⟩)
  simp only [engineStep, State.setStop_pos]
  split
  · rfl
  · exact subjectStep_setStop b s (hsub (.inl ‹_›)) fun sub => powerStep_setStop b s sub
  · exact subjectStep_setStop b s (hsub (.inr (.inl ‹_›))) fun sub => pullUpStep_setStop b s sub
  · exact subjectStep_setStop b s (hsub (.inr (.inr ‹_›))) fun sub => logicStep_setStop b s sub
  · exact sweepStep_setStop b s (hsweep ‹_›)
  · exact relayStep_setStop b s

theorem workerStep_setStop (h : ¬ atStopPoint s) : workerStep (s.setStop b) = (workerStep s).setStop b := by
  by_cases hr : s.ready
  · have hr' : (s.setStop b).ready := hr
    rw [workerStep_ready hr, workerStep_ready hr']
    exact engineStep_setStop b s.awake h
  · have hr' : ¬ (s.setStop b).ready := hr
    rw [workerStep_not_ready hr, workerStep_not_ready hr']

end

/-! ## At the stop points -/

section
variable {s : State}

/-- The turn of a worker that is not in a wait. -/
theorem workerStep_awake (hb : s.busy = true) (hw : s.work.wake = none) : workerStep s = engineStep s := by
  have hr : s.ready := ⟨hb, fun t ht => by rw [hw] at ht; cases ht⟩
  rw [workerStep_ready hr, State.awake_of_wake_none hw]

/-- A step of a check of a subject, or of the sequence. -/
theorem engineStep_subject {sub : Subject} (hs : s.subj[s.pos.idx]? = some sub) :
    (s.pos.phase = .power → engineStep s = if s.pos.step = 0 then sequenceGate sub s else powerStep sub s) ∧
    (s.pos.phase = .pullUp → engineStep s = if s.pos.step = 0 then sequenceGate sub s else pullUpStep sub s) ∧
    (s.pos.phase = .logic → engineStep s = if s.pos.step = 0 then sequenceGate sub s else logicStep sub s) := by
  refine ⟨fun hp => ?_, fun hp => ?_, fun hp => ?_⟩ <;> simp only [engineStep, hp, subjectStep, hs]

theorem engineStep_gate {sub : Subject} (hs : s.subj[s.pos.idx]? = some sub) (h0 : s.pos.step = 0)
    (hp : s.pos.phase = .power ∨ s.pos.phase = .pullUp ∨ s.pos.phase = .logic) : engineStep s = sequenceGate sub s := by
  obtain ⟨hpower, hpull, hlogic⟩ := engineStep_subject hs
  rcases hp with hp | hp | hp
  · rw [hpower hp, if_pos h0]
  · rw [hpull hp, if_pos h0]
  · rw [hlogic hp, if_pos h0]

end

/-- Settles O59. -/
theorem stopFlagIsReadOnlyAtStopPoints : Obligations.StopFlagIsReadOnlyAtStopPoints := by
  unfold Obligations.StopFlagIsReadOnlyAtStopPoints
  refine ⟨fun s b h => workerStep_setStop b s h, fun s hb hw hstop => ⟨fun sub hp h0 hs => ?_, fun hp h1 => ?_⟩⟩
  · rw [workerStep_awake hb hw, engineStep_gate hs h0 hp, sequenceGate, if_pos hstop]
    rfl
  · have hturn : workerStep s = (if s.pos.idx = 1 then restoreLines s else s).goto 7 := by
      simp only [workerStep_awake hb hw, engineStep, hp, sweepStep, h1, sweepS1, hstop, if_true]
    refine ⟨fun hne => ?_, fun heq => ?_⟩
    · rw [hturn, if_neg hne]
      rfl
    · rw [hturn, if_pos heq]
      obtain ⟨hf, -, -⟩ := restoreLines_frame s
      refine ⟨?_, restoreLines_not_high s, fun hgood q => ?_⟩
      · unfold FacadeOnly at hf ⊢
        rw [hf]
        rfl
      · have hgoto : ((restoreLines s).goto 7).fp q = (restoreLines s).fp q := rfl
        rw [hgoto, restoreLines_good hgood, State.wrote_fp]

/-- Settles O60. -/
theorem sequenceGoesThroughItsPhases : Obligations.SequenceGoesThroughItsPhases := by
  unfold Obligations.SequenceGoesThroughItsPhases
  intro s hb hw hstop
  rw [workerStep_awake hb hw]
  refine ⟨fun hnone => ?_, fun sub hs h0 hp => ?_, fun sub hs hseq => ?_⟩
  · have hdone (f : Subject → State → State) : subjectStep f s = s.phaseDone := phaseDone_step s hnone
    refine ⟨fun hp => ?_, fun hp => ?_, fun hp => ?_⟩ <;> simp only [engineStep, hp, hdone, State.phaseDone] <;> rfl
  · rw [engineStep_gate hs h0 hp, sequenceGate, if_neg (by simp [hstop])]
    refine ⟨fun he => ?_, fun he => ?_⟩
    · rw [if_pos he]
      rfl
    · rw [if_neg (by simp [he])]
      rfl
  · obtain ⟨hpower, hpull, hlogic⟩ := engineStep_subject hs
    have hfinish (l : List Subject) (r : CheckResult) : (s.setSubj l).finish r = { s with
        subj := l
        pos := { s.pos with idx := s.pos.idx + 1, step := 0 }
        work := { Work.idle with inSeq := true } } := by
      simp only [State.finish, State.setSubj_work, hseq, if_true]
      rfl
    refine ⟨fun hp hn => ?_, fun hp hn => ?_, fun hp hn => ?_⟩
    · rw [hpower hp, if_neg (by omega)]
      simp only [powerStep, hn]
      exact hfinish _ _
    · rw [hpull hp, if_neg (by omega)]
      simp only [pullUpStep, hn]
      exact hfinish _ _
    · rw [hlogic hp, if_neg (by omega)]
      simp only [logicStep, hn]
      exact hfinish _ _

end Sys2Proof.Machine

/-!
PROOFS about PowerTest, turn by turn (R222 to R225, R231).
-/

namespace Sys2Proof.Machine

/-! ## Moves of a check, in the terms of `atStep` -/

section
variable {t u : State}

/-- After operations that leave the check's values alone. -/
theorem goto_of_work (h : t.work = u.work) (n : Nat) : t.goto n = t.atStep n u.work := by
  rw [State.goto_eq_atStep, h]

theorem failTo_of_work (h : t.work = u.work) (r : Reason) (n : Nat) :
    t.failTo r n = t.atStep n { u.work with pass := false, reason := r } := by
  rw [State.failTo_eq_atStep, h]

/-- After a stimulus, whose time is recorded (R222, R224). -/
theorem applied_goto (h : t.work = u.work) (hn : t.env.now = u.env.now) (n : Nat) :
    t.applied.goto n = t.atStep n { u.work with t0 := u.env.now } := by
  rw [State.goto_eq_atStep]
  simp only [State.applied, State.setWork_work, h, hn]
  rfl

theorem nextPart_of_work {n : Nat} (h : t.work = u.work) (hn : u.work.sub = n) :
    t.nextPart = { t with work := { u.work with sub := n + 1 } } := by
  simp only [State.nextPart, State.setWork, h, hn]

theorem applied_nextPart (h : t.work = u.work) (hn : t.env.now = u.env.now) :
    t.applied.nextPart = { t with work := { u.work with t0 := u.env.now, sub := u.work.sub + 1 } } := by
  simp only [State.nextPart, State.applied, State.setWork, h, hn]

end

section
variable {u t : State} {d : Stimulus} {x : Int} {o : Option Reason}

/-- What a stimulus leaves of the check's values and of the time. -/
theorem kept_of_applyStimulus (h : applyStimulus d x u = (o, t)) : t.work = u.work ∧ t.env.now = u.env.now := by
  have hkept := applyStimulus_kept d x u
  rw [h] at hkept
  obtain ⟨-, hwork, hnow, -⟩ := hkept
  exact ⟨hwork, hnow⟩

/-- The revert whose result is ignored (R225). -/
theorem revertQuiet_eq (d : Stimulus) (u : State) : revertQuiet d u = (applyStimulus d 0 u).2 := by
  rw [revertQuiet, neutral_eq_zero]

/-- A reading is the channel's value times the scale factor (R223). -/
theorem measure_eq (pin : Int) (u : State) : measure pin u =
    ((analogRead (measPin u.cfg (pairOfPin u.cfg pin)) u).1.map fun v => u.cfg.vScale * v,
      (analogRead (measPin u.cfg (pairOfPin u.cfg pin)) u).2) := rfl

end

/-- The directive in use. -/
theorem spec_getD {u : State} {d : Stimulus} (h : u.work.spec = some d) : u.work.spec.getD default = d := by
  rw [h]
  rfl

/-! ## The steps of PowerTest -/

section
variable {u t : State} {sub : Subject} {d : Stimulus} {v : Volts} {why : Reason}

theorem powerP5_of_stimulus (h : parseStimulus sub.input.powerInput = some d) :
    powerP5 sub u = u.atStep 6 { u.work with spec := some d } := by
  simp only [powerP5, classifyPowerInput_eq, h]
  rfl

theorem powerP6_of_stimulus (h : u.work.spec = some d) : powerP6 sub u = u.atStep 7 u.work := by
  simp only [powerP6, h]
  rfl

theorem powerP7_of_measured (h : u.work.measured = some v) : powerP7 u =
    if absRat v ≤ u.cfg.tol then u.atStep 8 u.work
    else u.atStep 15 { u.work with pass := false, reason := .notNearZero } := by
  have hzero : (u.work.measured.map (nearZero u.cfg)).getD false = decide (absRat v ≤ u.cfg.tol) := by
    rw [h]
    rfl
  simp only [powerP7, hzero, decide_eq_true_eq]
  rfl

theorem powerP8_of_failure (h : applyStimulus d d.value u = (some why, t)) :
    powerP8 d u = t.atStep 15 { u.work with pass := false, reason := why } := by
  simp only [powerP8, h]
  exact failTo_of_work (kept_of_applyStimulus h).1 _ _

theorem powerP8_of_applied (h : applyStimulus d d.value u = (none, t)) :
    powerP8 d u = t.atStep 9 { u.work with t0 := u.env.now } := by
  obtain ⟨hwork, hnow⟩ := kept_of_applyStimulus h
  simp only [powerP8, h]
  exact applied_goto hwork hnow _

theorem powerP9_begin (h : u.work.sub = 0) : powerP9 d u =
    { u with work := { u.work with deadline := u.env.now + u.cfg.verifyWait, sub := 1 } } := by
  simp only [powerP9, h]
  simp only [State.beginVerify, State.nextPart, State.setWork, h]

theorem powerP9_poll (h : u.work.sub = 1) :
    (verifyPoll d d.value u = none → powerP9 d u = u) ∧
    (verifyPoll d d.value u = some true → powerP9 d u = u.atStep 10 u.work) ∧
    (verifyPoll d d.value u = some false → powerP9 d u = { u with work := { u.work with sub := 2 } }) := by
  refine ⟨fun hv => ?_, fun hv => ?_, fun hv => ?_⟩ <;> simp only [powerP9, h, hv]
  · rfl
  · exact nextPart_of_work rfl h

theorem powerP9_revert (h : 2 ≤ u.work.sub) :
    powerP9 d u = (applyStimulus d 0 u).2.atStep 15 { u.work with pass := false, reason := .verifyFailed } := by
  unfold powerP9
  split
  · omega
  · omega
  · rw [revertQuiet_eq]
    exact failTo_of_work (applyStimulus_kept d 0 u).2.1 _ _

theorem powerP11_measure (h : u.work.sub = 0) :
    let r := analogRead (measPin u.cfg (pairOfPin u.cfg sub.input.pin)) u
    (r.1 = none → powerP11 sub d u = { r.2 with work := { u.work with sub := 1 } }) ∧
    (r.1 = some v → powerP11 sub d u = r.2.atStep 12 { u.work with measured := some (u.cfg.vScale * v) }) := by
  dsimp only
  refine ⟨fun hr => ?_, fun hr => ?_⟩
  · simp only [powerP11, h, measure_eq, hr, Option.map_none]
    exact nextPart_of_work rfl h
  · simp only [powerP11, h, measure_eq, hr, Option.map_some]
    rfl

theorem powerP11_revert (h : 1 ≤ u.work.sub) :
    powerP11 sub d u = (applyStimulus d 0 u).2.atStep 15 { u.work with pass := false, reason := .facadeFailure } := by
  unfold powerP11
  split
  · omega
  · rw [revertQuiet_eq]
    exact failTo_of_work (applyStimulus_kept d 0 u).2.1 _ _

theorem powerP12_of_failure (h : u.work.sub = 0) (ha : applyStimulus d 0 u = (some why, t)) :
    powerP12 d u = t.atStep 13 { u.work with gate := false } := by
  have hwork := (kept_of_applyStimulus ha).1
  simp only [powerP12, h, neutral_eq_zero, ha, hwork]
  rfl

theorem powerP12_of_applied (h : u.work.sub = 0) (ha : applyStimulus d 0 u = (none, t)) :
    powerP12 d u = { t with work := { u.work with t0 := u.env.now, sub := 1 } } := by
  obtain ⟨hwork, hnow⟩ := kept_of_applyStimulus ha
  simp only [powerP12, h, neutral_eq_zero, ha]
  rw [applied_nextPart hwork hnow, h]

theorem powerP12_begin (h : u.work.sub = 1) : powerP12 d u =
    { u with work := { u.work with deadline := u.env.now + u.cfg.verifyWait, sub := 2 } } := by
  simp only [powerP12, h]
  simp only [State.beginVerify, State.nextPart, State.setWork, h]

theorem powerP12_poll (h : 2 ≤ u.work.sub) :
    (verifyPoll d 0 u = none → powerP12 d u = u) ∧
    (∀ b, verifyPoll d 0 u = some b → powerP12 d u = u.atStep 13 { u.work with gate := b }) := by
  unfold powerP12
  rw [neutral_eq_zero]
  split
  · omega
  · omega
  · refine ⟨fun hv => ?_, fun b hv => ?_⟩ <;> simp only [hv]
    rfl

theorem powerP13_eq : powerP13 u =
    if u.work.gate then u.atStep 14 u.work
    else u.atStep 15 { u.work with pass := false, reason := .revertFailed } := rfl

/-- A comparison's verdict and where it goes (R220, R228). -/
theorem judge_goto (p : Prop) [Decidable p] (n : Nat) : (u.judge (decide p)).goto n =
    if p then u.atStep n { u.work with pass := true, reason := .ok }
    else u.atStep n { u.work with pass := false, reason := .mismatch } := by
  by_cases h : p <;> simp only [h, decide_true, decide_false, if_true, if_false] <;> rfl

theorem powerP14_of_measured (h : u.work.measured = some v) : powerP14 sub u =
    if absRat (v - sub.input.powerExpected) ≤ u.cfg.tol then u.atStep 15 { u.work with pass := true, reason := .ok }
    else u.atStep 15 { u.work with pass := false, reason := .mismatch } := by
  have hjudge : powerP14 sub u = (u.judge (decide (absRat (v - sub.input.powerExpected) ≤ u.cfg.tol))).goto 15 := by
    simp only [powerP14, h, within]
  rw [hjudge]
  exact judge_goto (u := u) _ 15

/-- The return of a check of its own (R220). -/
theorem finish_record (h : u.work.inSeq = false) (l : List Subject) (r : CheckResult) : (u.setSubj l).finish r = { u with
    subj := l, busy := false, pos := .idle, work := .idle, responses := .okValue (.check r) :: u.responses } := by
  rw [State.finish_alone (s := u.setSubj l) h]
  rfl

theorem powerP16_alone (h : u.work.inSeq = false) : powerP16 sub u = { u with
    subj := u.subj.set u.pos.idx
      { sub with powerMeasured := u.work.measured, powerResult := if u.work.pass then .pass else .fail }
    busy := false
    pos := .idle
    work := .idle
    responses := .okValue (.check { measured := .ofVolts u.work.measured, pass := u.work.pass, reason := u.work.reason }) ::
      u.responses } := by
  rw [powerP16]
  exact finish_record h _ _

end

/-! ## Its turns -/

/-- The turn of PowerTest at step `n`. -/
theorem powerTurn {s : State} {sub : Subject} (h : s.ready) (hs : s.subj[s.pos.idx]? = some sub)
    (hp : s.pos.phase = .power) {n : Nat} (hn : s.pos.step = n) (h0 : n ≠ 0) :
    workerStep s = powerStep sub s.awake := (workerStep_subject h hs (hn ▸ h0)).1 hp

/-- Settles O41. -/
theorem powerTestStimulusBranch : Obligations.PowerTestStimulusBranch := by
  unfold Obligations.PowerTestStimulusBranch
  intro s sub d h hp hs u w q exit
  have hstep (n : Nat) (h0 : n ≠ 0) (hn : s.pos.step = n) : workerStep s = powerStep sub u ∧ u.pos.step = n :=
    ⟨powerTurn h hs hp hn h0, hn⟩
  refine ⟨fun hn hd => ?_, fun hn hd => ?_, fun v hn hv => ?_, fun t why hn hd ha => ?_, fun t hn hd ha => ?_,
    fun hn h0 => ?_, fun hn h1 hd => ?_, fun hn h2 hd => ?_, fun hn => ?_, fun hn h0 hr => ?_, fun v hn h0 hr => ?_,
    fun hn h1 hd => ?_, fun t why hn h0 hd ha => ?_, fun t hn h0 hd ha => ?_, fun hn h1 hd => ?_, fun hn h2 hd => ?_,
    fun hn => ?_, fun v hn hv => ?_, fun hn hseq => ?_⟩
  all_goals
    obtain ⟨hturn, hpos⟩ := hstep _ (by decide) hn
    rw [hturn]
    simp only [powerStep, hpos]
  · exact powerP5_of_stimulus hd
  · exact powerP6_of_stimulus hd
  · exact powerP7_of_measured hv
  · rw [spec_getD hd]
    exact powerP8_of_failure ha
  · rw [spec_getD hd]
    exact powerP8_of_applied ha
  · exact powerP9_begin h0
  · rw [spec_getD hd]
    exact powerP9_poll h1
  · rw [spec_getD hd]
    exact powerP9_revert h2
  · rfl
  · exact (powerP11_measure (v := 0) h0).1 hr
  · exact (powerP11_measure h0).2 hr
  · rw [spec_getD hd]
    exact powerP11_revert h1
  · rw [spec_getD hd]
    exact powerP12_of_failure h0 ha
  · rw [spec_getD hd]
    exact powerP12_of_applied h0 ha
  · exact powerP12_begin h1
  · rw [spec_getD hd]
    exact powerP12_poll h2
  · exact powerP13_eq
  · exact powerP14_of_measured hv
  · exact powerP16_alone hseq

end Sys2Proof.Machine

/-!
PROOFS about PullUpTest and LogicTest, turn by turn (R222 to R226, R240, R242, R245, R247 to R249, R270).
-/

namespace Sys2Proof.Machine

/-! ## The steps of PullUpTest -/

section
variable {u t : State} {sub : Subject} {d : Stimulus} {k : Nat} {v : Volts} {why : Reason}

/-- The exits of U4 to U8 (R240). -/
theorem pullUpExit_of_work (h : t.work = u.work) (hcfg : t.cfg = u.cfg) : pullUpExit k why t =
    (digitalWrite (pullupPin u.cfg k) false t).2.atStep 12 { u.work with pass := false, reason := why } := by
  rw [pullUpExit, setPullup, hcfg]
  exact failTo_of_work ((digitalWrite_engine t _ _).2.1.trans h) _ _

theorem pullUpExit_eq (k : Nat) (why : Reason) (u : State) : pullUpExit k why u =
    (digitalWrite (pullupPin u.cfg k) false u).2.atStep 12 { u.work with pass := false, reason := why } :=
  pullUpExit_of_work rfl rfl

theorem pullUpU2_of_reading (h : (analogRead (measPin u.cfg (pairOfPin u.cfg sub.input.pin)) u).1 = some v) :
    pullUpU2 sub u =
      if absRat (u.cfg.vScale * v) ≤ u.cfg.tol then
        (analogRead (measPin u.cfg (pairOfPin u.cfg sub.input.pin)) u).2.atStep 3
          { u.work with measured := some (u.cfg.vScale * v) }
      else (analogRead (measPin u.cfg (pairOfPin u.cfg sub.input.pin)) u).2.atStep 12
        { u.work with measured := some (u.cfg.vScale * v), pass := false, reason := .notNearZero } := by
  simp only [pullUpU2, measure_eq, h, Option.map_some, nearZero, decide_eq_true_eq]
  rfl

theorem pullUpU5_of_measured (h : u.work.measured = some v) : pullUpU5 sub k u =
    if absRat (v - sub.input.pullupExpected) ≤ u.cfg.tol then u.atStep 6 u.work
    else (digitalWrite (pullupPin u.cfg k) false u).2.atStep 12
      { u.work with pass := false, reason := .mismatch } := by
  have hwithin : (u.work.measured.map fun v => within u.cfg v sub.input.pullupExpected).getD false =
      decide (absRat (v - sub.input.pullupExpected) ≤ u.cfg.tol) := by
    rw [h]
    rfl
  simp only [pullUpU5, hwithin, decide_eq_true_eq, pullUpExit_eq]
  rfl

theorem pullUpU6_of_G (h : sub.input.pullupInput = ['G']) : pullUpU6 sub k u =
    if (digitalWrite (pullupPin u.cfg k) false u).1 then
      (digitalWrite (pullupPin u.cfg k) false u).2.atStep 12 { u.work with pass := true, reason := .ok }
    else (digitalWrite (pullupPin u.cfg k) false u).2.atStep 12
      { u.work with pass := false, reason := .facadeFailure } := by
  have hG : isGText sub.input.pullupInput = true := by rw [h]; rfl
  rw [pullUpU6, if_pos hG]
  rfl

theorem pullUpU6_of_directive (h : sub.input.pullupInput ≠ ['G']) : pullUpU6 sub k u = u.atStep 7 u.work := by
  have hG : ¬ isGText sub.input.pullupInput = true := by simpa [isGText] using h
  rw [pullUpU6, if_neg hG]
  rfl

theorem pullUpU7_of_none (h : parseStimulus sub.input.pullupInput = none) : pullUpU7 sub k u =
    ((digitalWrite (pullupPin u.cfg k) false u).2.atStep 12
      { u.work with pass := false, reason := .badDirective }).emit (.unparsedDirective u.pos.phase u.pos.idx) := by
  simp only [pullUpU7, h]
  rfl

theorem pullUpU7_of_some (h : parseStimulus sub.input.pullupInput = some d) : pullUpU7 sub k u =
    if d.kind = .DO then u.atStep 8 { u.work with spec := some d }
    else (digitalWrite (pullupPin u.cfg k) false u).2.atStep 12
      { u.work with pass := false, reason := .badDirective } := by
  simp only [pullUpU7, h]
  cases d.kind <;> rfl

theorem pullUpU8_of_failure (h : applyStimulus d d.value u = (some why, t)) : pullUpU8 d k u =
    (digitalWrite (pullupPin u.cfg k) false t).2.atStep 12 { u.work with pass := false, reason := why } := by
  have hcfg : t.cfg = u.cfg := by
    have := congrArg (fun r => r.2.cfg) h
    rw [applyStimulus_fleetOnly] at this
    exact this.symm
  simp only [pullUpU8, h]
  exact pullUpExit_of_work (kept_of_applyStimulus h).1 hcfg

theorem pullUpU8_of_applied (h : applyStimulus d d.value u = (none, t)) :
    pullUpU8 d k u = t.atStep 9 { u.work with t0 := u.env.now } := by
  obtain ⟨hwork, hnow⟩ := kept_of_applyStimulus h
  simp only [pullUpU8, h]
  exact applied_goto hwork hnow _

theorem pullUpU9_begin (h : u.work.sub = 0) : pullUpU9 d u =
    { u with work := { u.work with deadline := u.env.now + u.cfg.verifyWait, sub := 1 } } := by
  simp only [pullUpU9, h, if_true]
  simp only [State.beginVerify, State.nextPart, State.setWork, h]

theorem pullUpU9_poll (h : u.work.sub ≠ 0) :
    (verifyPoll d d.value u = none → pullUpU9 d u = u) ∧
    (verifyPoll d d.value u = some true → pullUpU9 d u = u.atStep 10 { u.work with gate := true, reason := .ok }) ∧
    (verifyPoll d d.value u = some false →
      pullUpU9 d u = u.atStep 11 { u.work with gate := false, reason := .verifyFailed }) := by
  refine ⟨fun hv => ?_, fun hv => ?_, fun hv => ?_⟩ <;> simp only [pullUpU9, if_neg h, hv] <;> rfl

theorem pullUpU10_wait (h : u.work.sub = 0) : pullUpU10 sub u =
    { u with work := { u.work with sub := 1, wake := some (u.env.now + u.cfg.settle) } } := by
  simp only [pullUpU10, h, if_true]
  simp only [State.sleep, State.nextPart, State.setWork, h]

theorem pullUpU10_measure (h : u.work.sub ≠ 0) :
    let r := analogRead (measPin u.cfg (pairOfPin u.cfg sub.input.pin)) u
    (r.1 = none → pullUpU10 sub u = r.2.atStep 11 { u.work with gate := false, reason := .facadeFailure }) ∧
    (r.1 = some v → pullUpU10 sub u = r.2.atStep 11
      (if absRat (u.cfg.vScale * v) ≤ u.cfg.tol then { u.work with gate := true, reason := .ok }
        else { u.work with gate := false, reason := .pullDownMismatch })) := by
  dsimp only
  refine ⟨fun hr => ?_, fun hr => ?_⟩
  · simp only [pullUpU10, if_neg h, measure_eq, hr, Option.map_none]
    rfl
  · simp only [pullUpU10, if_neg h, measure_eq, hr, Option.map_some, nearZero]
    split <;> simp only [*, decide_true, decide_false] <;> rfl

theorem pullUpU11_restore (h : u.work.sub = 0) : pullUpU11 d k u =
    { (digitalWrite (pullupPin u.cfg k) false u).2 with
      work := { u.work with restored := (digitalWrite (pullupPin u.cfg k) false u).1, sub := 1 } } := by
  have hwork : (digitalWrite (pullupPin u.cfg k) false u).2.work = u.work := (digitalWrite_engine u _ _).2.1
  simp only [pullUpU11, h, setPullup]
  simp only [State.nextPart, State.setWork, hwork, h]

/-- The verdict of U11 (R242). -/
theorem pullUpVerdict_goto (b : Bool) (h : t.work = u.work) : (pullUpVerdict b t).goto 12 = t.atStep 12 { u.work with
    pass := u.work.gate && (u.work.restored && b)
    reason := if u.work.gate then (if u.work.restored && b then .ok else .revertFailed) else u.work.reason } := by
  rw [← h]
  unfold pullUpVerdict
  cases hg : t.work.gate with
  | false => rfl
  | true =>
    cases hr : t.work.restored && b with
    | false => simp; rfl
    | true => simp; rfl

theorem pullUpU11_of_failure (h : u.work.sub = 1) (ha : applyStimulus d 0 u = (some why, t)) :
    pullUpU11 d k u = t.atStep 12
      { u.work with pass := false, reason := if u.work.gate then .revertFailed else u.work.reason } := by
  simp only [pullUpU11, h, neutral_eq_zero, ha]
  rw [pullUpVerdict_goto false (kept_of_applyStimulus ha).1, Bool.and_false, Bool.and_false]
  rfl

theorem pullUpU11_of_applied (h : u.work.sub = 1) (ha : applyStimulus d 0 u = (none, t)) :
    pullUpU11 d k u = { t with work := { u.work with t0 := u.env.now, sub := 2 } } := by
  obtain ⟨hwork, hnow⟩ := kept_of_applyStimulus ha
  simp only [pullUpU11, h, neutral_eq_zero, ha]
  rw [applied_nextPart hwork hnow, h]

theorem pullUpU11_begin (h : u.work.sub = 2) : pullUpU11 d k u =
    { u with work := { u.work with deadline := u.env.now + u.cfg.verifyWait, sub := 3 } } := by
  simp only [pullUpU11, h]
  simp only [State.beginVerify, State.nextPart, State.setWork, h]

theorem pullUpU11_poll (h : 3 ≤ u.work.sub) :
    (verifyPoll d 0 u = none → pullUpU11 d k u = u) ∧
    (∀ b, verifyPoll d 0 u = some b → pullUpU11 d k u = u.atStep 12 { u.work with
      pass := u.work.gate && (u.work.restored && b)
      reason := if u.work.gate then (if u.work.restored && b then .ok else .revertFailed) else u.work.reason }) := by
  unfold pullUpU11
  rw [neutral_eq_zero]
  split
  · omega
  · omega
  · omega
  · refine ⟨fun hv => ?_, fun b hv => ?_⟩ <;> simp only [hv]
    exact pullUpVerdict_goto b rfl

theorem pullUpU13_alone (h : u.work.inSeq = false) : pullUpU13 sub u = { u with
    subj := u.subj.set u.pos.idx
      { sub with pullupMeasured := u.work.measured, pullupResult := if u.work.pass then .pass else .fail }
    busy := false
    pos := .idle
    work := .idle
    responses := .okValue (.check { measured := .ofVolts u.work.measured, pass := u.work.pass, reason := u.work.reason }) ::
      u.responses } := by
  rw [pullUpU13]
  exact finish_record h _ _

end

/-- Settles O42. -/
theorem pullUpTestDirectiveBranch : Obligations.PullUpTestDirectiveBranch := by
  unfold Obligations.PullUpTestDirectiveBranch
  intro s sub d h hp hs u w q lower exit
  have hstep (n : Nat) (h0 : n ≠ 0) (hn : s.pos.step = n) : workerStep s = pullUpStep sub u ∧ u.pos.step = n :=
    ⟨(workerStep_subject h hs (hn ▸ h0)).2.1 hp, hn⟩
  refine ⟨fun v hn hr => ?_, fun v hn hv => ?_, fun hn hG => ?_, fun hn hG => ?_, fun hn hd => ?_, fun hn hd => ?_,
    fun t why hn hd ha => ?_, fun t hn hd ha => ?_, fun hn h0 => ?_, fun hn h0 hd => ?_, fun hn h0 => ?_,
    fun hn h0 hr => ?_, fun v hn h0 hr => ?_, fun hn h0 hd => ?_, fun t why hn h1 hd ha => ?_,
    fun t hn h1 hd ha => ?_, fun hn h2 hd => ?_, fun hn h3 hd => ?_, fun hn hseq => ?_⟩
  all_goals
    obtain ⟨hturn, hpos⟩ := hstep _ (by decide) hn
    rw [hturn]
    simp only [pullUpStep, hpos]
  · exact pullUpU2_of_reading hr
  · exact pullUpU5_of_measured hv
  · exact pullUpU6_of_G hG
  · exact pullUpU6_of_directive hG
  · rw [pullUpU7_of_none hd, show u.pos.phase = .pullUp from hp]
    rfl
  · exact pullUpU7_of_some hd
  · rw [spec_getD hd]
    exact pullUpU8_of_failure ha
  · rw [spec_getD hd]
    exact pullUpU8_of_applied ha
  · exact pullUpU9_begin h0
  · rw [spec_getD hd]
    exact pullUpU9_poll h0
  · exact pullUpU10_wait h0
  · exact (pullUpU10_measure (v := 0) h0).1 hr
  · exact (pullUpU10_measure h0).2 hr
  · exact pullUpU11_restore h0
  · rw [spec_getD hd]
    exact pullUpU11_of_failure h1 ha
  · rw [spec_getD hd]
    exact pullUpU11_of_applied h1 ha
  · exact pullUpU11_begin h2
  · rw [spec_getD hd]
    exact pullUpU11_poll h3
  · exact pullUpU13_alone hseq

/-! ## The steps of LogicTest -/

section
variable {u : State} {sub : Subject}

theorem logicG2_of_none (h : secondSubject u.subj sub.input.logicPinInput = none) :
    logicG2 sub u = u.atStep 8 { u.work with pass := false, reason := .wrongLogicPinInput } := by
  simp only [logicG2, h]
  rfl

theorem logicG2_of_some {other : Subject} (h : secondSubject u.subj sub.input.logicPinInput = some other) :
    logicG2 sub u =
      if eligiblePullUp u.cfg other then u.atStep 3 { u.work with secondPin := other.input.pin }
      else u.atStep 8 { u.work with pass := false, reason := .wrongLogicPinInput } := by
  simp only [logicG2, h]
  rfl

/-- No subject has the name (R248). -/
theorem secondSubject_none {l : List Subject} {name : Text} (h : name = [] ∨ ∀ x ∈ l, x.input.pinId ≠ name) :
    secondSubject l name = none := by
  unfold secondSubject
  split
  · rfl
  · rename_i hne
    rw [List.find?_eq_none]
    intro x hx
    simpa using (h.resolve_left hne) x hx

theorem secondSubject_some {l : List Subject} {name : Text} {other : Subject} (hne : name ≠ [])
    (h : l.find? (fun x => decide (x.input.pinId = name)) = some other) : secondSubject l name = some other := by
  rw [secondSubject, if_neg hne]
  exact h

/-- A PowerTest passed near zero (R261). -/
theorem eligiblePullUp_iff {cfg : Cfg} {sub : Subject} : eligiblePullUp cfg sub = true ↔
    sub.powerResult = .pass ∧ ∃ v, sub.powerMeasured = some v ∧ absRat v ≤ cfg.tol := by
  simp only [eligiblePullUp, powerPassed_iff, nearZero, decide_eq_true_eq]

theorem logicG6_of_none (h : parseLogicExpected sub.input.logicExpected = none) : logicG6 sub u =
    (u.atStep 8 { u.work with pass := false, reason := .badDirective }).emit
      (.unparsedDirective u.pos.phase u.pos.idx) := by
  simp only [logicG6, h]
  rfl

/-- G7 fails where the fleet does not answer a bit (R230, R249). -/
theorem logicG7_of_absent {e : LogicExpectation} (h : fleetGet e.card (digitalInput e.number) u = .absent) :
    logicG7 e u = u.atStep 8 { u.work with pass := false, reason := .cardAbsent } := by
  simp only [logicG7, h]
  rfl

theorem logicG7_of_error {e : LogicExpectation} {err : Err} (h : fleetGet e.card (digitalInput e.number) u = .error err) :
    logicG7 e u = u.atStep 8 { u.work with pass := false, reason := .outOfRange } := by
  simp only [logicG7, h]
  rfl

theorem logicG9_alone (h : u.work.inSeq = false) : logicG9 sub u = { u with
    subj := u.subj.set u.pos.idx { sub with logicResult := if u.work.pass then .pass else .fail }
    busy := false
    pos := .idle
    work := .idle
    responses := .okValue (.check { measured := .ofBit u.work.bitRead, pass := u.work.pass, reason := u.work.reason }) ::
      u.responses } := by
  rw [logicG9]
  exact finish_record h _ _

end

/-- Settles O43. -/
theorem logicTestFailingExits : Obligations.LogicTestFailingExits := by
  unfold Obligations.LogicTestFailingExits
  intro s sub h hp hs u w exit
  have hstep (n : Nat) (h0 : n ≠ 0) (hn : s.pos.step = n) : workerStep s = logicStep sub u ∧ u.pos.step = n :=
    ⟨(workerStep_subject h hs (hn ▸ h0)).2.2 hp, hn⟩
  refine ⟨fun hn hname => ?_, fun other hn hne hfind => ⟨fun hbad => ?_, fun v hpass hv hzero => ?_⟩, fun hn hd => ?_,
    fun e hn he => ⟨fun hc => ?_, fun ch hc hnum => ?_, fun ch hc h1 h64 hrf => ?_⟩, fun hn hseq => ?_⟩
  all_goals
    obtain ⟨hturn, hpos⟩ := hstep _ (by decide) hn
    rw [hturn]
    simp only [logicStep, hpos]
  · exact logicG2_of_none (secondSubject_none hname)
  · rw [logicG2_of_some (u := u) (secondSubject_some hne hfind), if_neg]
    rw [eligiblePullUp_iff]
    rintro ⟨hpass, v, hv, hzero⟩
    rcases hbad with hbad | hbad | ⟨v', hv', hbad⟩
    · exact hbad hpass
    · rw [hbad] at hv
      cases hv
    · rw [hv'] at hv
      cases hv
      exact absurd hzero (not_le.2 hbad)
  · rw [logicG2_of_some (u := u) (secondSubject_some hne hfind), 
      if_pos ((eligiblePullUp_iff (cfg := u.cfg)).2 ⟨hpass, v, hv, hzero⟩)]
  · rw [logicG6_of_none hd, show u.pos.phase = .logic from hp]
    rfl
  · rw [he]
    exact logicG7_of_absent (fleetGet_absent (s := u) hc _)
  · rw [he, Option.getD_some]
    refine logicG7_of_error (err := rangeError e.number) ((fleetGet_of_chan (s := u) hc _).trans ?_)
    rw [digitalInput, if_pos (by omega)]
  · rw [he, Option.getD_some]
    refine logicG7_of_absent ((fleetGet_of_chan (s := u) hc _).trans ?_)
    have hlegal : ¬ ((e.number : Int) < 1 ∨ 64 < (e.number : Int)) := by omega
    rw [digitalInput, if_neg hlegal, ofFrame, hrf]
  · exact logicG9_alone hseq

end Sys2Proof.Machine

/-!
PROOFS about failures inside a check, cleanups and ShortCircuitTest (R229, R230, R242, R253, R254, R280, R281).
-/

namespace Sys2Proof.Machine

/-! ## The worker's responses (R280) -/

/-- The worker gives no response but the result of a check. -/
theorem workerStep_responses (s : State) : (workerStep s).responses = s.responses ∨
    ∃ r, (workerStep s).responses = .okValue (.check r) :: s.responses := by
  rcases workerStep_act s with ⟨-, e⟩ | ⟨-, h⟩
  · rw [e]
    exact .inl rfl
  · generalize workerStep s = t at h ⊢
    cases h with
    | idle | ends | enters | skips => exact .inl rfl
    | goes h =>
      obtain ⟨⟨-, -, -, hresp, -⟩, -⟩ := h
      exact .inl hresp
    | @returns r l hl hphase hr =>
      rcases State.finish_cases (s.awake.setSubj l) r with ⟨-, e⟩ | ⟨-, e⟩ <;> rw [e]
      · exact .inl rfl
      · exact .inr ⟨r, rfl⟩

/-! ## Failing router operations inside a check -/

section
variable {s t : State} {e : Err} {pin : Int} {sch : Scheme}

theorem routePin_illegal (h : ¬ (1 ≤ pin ∧ pin ≤ 50)) (sch : Scheme) (s : State) :
    routePin pin sch s = (some (rangeError pin), s) := by
  simp only [routePin, lookupPattern, dif_neg h]

theorem routeClean_of_failure (h : clearAllLines s = (some e, t)) (pin : Int) (sch : Scheme) :
    routeClean pin sch s = (some e, t) := by
  simp only [routeClean, h]

theorem routeClean_of_cleared (h : clearAllLines s = (none, t)) (pin : Int) (sch : Scheme) :
    routeClean pin sch s = routePin pin sch t := by
  simp only [routeClean, h]

theorem clearAllLines_error (h : clearAllLines s = (some e, t)) : reasonOf e = .facadeFailure := driveLines_error h

/-- What is left of the check's values by an operation over the facade. -/
theorem work_of_clearAllLines {o : Option Err} (h : clearAllLines s = (o, t)) : t.work = s.work := by
  have := (clearAllLines_engine s).2.1
  rwa [h] at this

theorem work_of_routePin {o : Option Err} (h : routePin pin sch s = (o, t)) : t.work = s.work := by
  have := (routePin_engine s pin sch).2.1
  rwa [h] at this

theorem work_of_routeClean {o : Option Err} (h : routeClean pin sch s = (o, t)) : t.work = s.work := by
  have := (routeClean_engine s pin sch).2.1
  rwa [h] at this

theorem engine_of_digitalWrite {p : FacadePin} {l b : Bool} (h : digitalWrite p l s = (b, t)) :
    t.work = s.work ∧ t.cfg = s.cfg := by
  have hwork := (digitalWrite_engine s p l).2.1
  have hcfg := (digitalWrite_frame p l s).1.cfg
  rw [h] at hwork hcfg
  exact ⟨hwork, hcfg⟩

theorem engine_of_drivePins {ps : List FacadePin} {l b : Bool} (h : drivePins l ps s = (b, t)) :
    t.work = s.work ∧ t.cfg = s.cfg := by
  have hwork := (drivePins_engine s l ps).2.1
  have hcfg := (drivePins_frame l ps s).1.cfg
  rw [h] at hwork hcfg
  exact ⟨hwork, hcfg⟩

end

/-! ## Failing steps (R230) -/

section
variable {u t : State} {sub : Subject} {e : Err} {k ka kb : Nat} {v : Volts}

theorem powerP1_of_failure (h : clearAllLines u = (some e, t)) :
    powerP1 u = t.atStep 15 { u.work with pass := false, reason := .facadeFailure } := by
  simp only [powerP1, h, clearAllLines_error h]
  exact failTo_of_work (work_of_clearAllLines h) _ _

theorem powerP2_of_failure {why : Reason} (h : routePin sub.input.pin .A u = (some e, t)) (he : reasonOf e = why) :
    powerP2 sub u = t.atStep 15 { u.work with pass := false, reason := why } := by
  simp only [powerP2, h, he]
  exact failTo_of_work (work_of_routePin h) _ _

theorem powerP4_of_failure (h : (analogRead (measPin u.cfg (pairOfPin u.cfg sub.input.pin)) u).1 = none) :
    powerP4 sub u = (analogRead (measPin u.cfg (pairOfPin u.cfg sub.input.pin)) u).2.atStep 15
      { u.work with pass := false, reason := .facadeFailure } := by
  simp only [powerP4, measure_eq, h, Option.map_none]
  rfl

theorem pullUpU1_of_failure {why : Reason} (h : routeClean sub.input.pin .A u = (some e, t)) (he : reasonOf e = why) :
    pullUpU1 sub u = t.atStep 12 { u.work with pass := false, reason := why } := by
  simp only [pullUpU1, h, he]
  exact failTo_of_work (work_of_routeClean h) _ _

theorem pullUpU2_of_failure (h : (analogRead (measPin u.cfg (pairOfPin u.cfg sub.input.pin)) u).1 = none) :
    pullUpU2 sub u = (analogRead (measPin u.cfg (pairOfPin u.cfg sub.input.pin)) u).2.atStep 12
      { u.work with pass := false, reason := .facadeFailure } := by
  simp only [pullUpU2, measure_eq, h, Option.map_none]
  rfl

theorem pullUpU3_of_failure (h : digitalWrite (pullupPin u.cfg k) true u = (false, t)) :
    pullUpU3 k u = (digitalWrite (pullupPin u.cfg k) false t).2.atStep 12
      { u.work with pass := false, reason := .facadeFailure } := by
  obtain ⟨hwork, hcfg⟩ := engine_of_digitalWrite h
  simp only [pullUpU3, setPullup, h]
  exact pullUpExit_of_work hwork hcfg

theorem pullUpU4_of_failure (h : (analogRead (measPin u.cfg (pairOfPin u.cfg sub.input.pin)) u).1 = none) :
    pullUpU4 sub k u =
      (digitalWrite (pullupPin u.cfg k) false (analogRead (measPin u.cfg (pairOfPin u.cfg sub.input.pin)) u).2).2.atStep
        12 { u.work with pass := false, reason := .facadeFailure } := by
  have hcfg := (analogRead_frame (measPin u.cfg (pairOfPin u.cfg sub.input.pin)) u).1.cfg
  simp only [pullUpU4, measure_eq, h, Option.map_none]
  exact pullUpExit_of_work rfl hcfg

theorem logicG1_of_failure {why : Reason} (h : routeClean sub.input.pin .A u = (some e, t)) (he : reasonOf e = why) :
    logicG1 sub u = t.atStep 8 { u.work with pass := false, reason := why } := by
  simp only [logicG1, h, he]
  exact failTo_of_work (work_of_routeClean h) _ _

theorem logicG3_of_failure {why : Reason} (h : routePin u.work.secondPin .B u = (some e, t)) (he : reasonOf e = why) :
    logicG3 u = t.atStep 8 { u.work with pass := false, reason := why } := by
  simp only [logicG3, h, he]
  exact failTo_of_work (work_of_routePin h) _ _

/-- Writes of pins do not see the check's values. -/
theorem drivePins_setWork (l : Bool) (ps : List FacadePin) (w : Work) (u : State) :
    drivePins l ps (u.setWork w) = ((drivePins l ps u).1, (drivePins l ps u).2.setWork w) := by
  induction ps generalizing u with
  | nil => rfl
  | cons p ps ih =>
    have hone : digitalWrite p l (u.setWork w) = ((digitalWrite p l u).1, (digitalWrite p l u).2.setWork w) := rfl
    simp only [drivePins, hone, ih]
    split <;> rfl

theorem logicG4_of_firstFailure (h : drivePins true (relayPins u.cfg (pairOfPin u.cfg sub.input.pin)) u = (false, t)) :
    logicG4 sub u = t.atStep 8 { u.work with relays := 1, pass := false, reason := .facadeFailure } := by
  simp only [logicG4, setRelay, drivePins_setWork, State.setWork_cfg, h]
  rfl

theorem logicG4_of_secondFailure {t' : State}
    (h : drivePins true (relayPins u.cfg (pairOfPin u.cfg sub.input.pin)) u = (true, t))
    (h' : drivePins true (relayPins u.cfg (pairOfPin u.cfg u.work.secondPin)) t = (false, t')) :
    logicG4 sub u = t'.atStep 8 { u.work with relays := 2, pass := false, reason := .facadeFailure } := by
  have hcfg := (engine_of_drivePins h).2
  simp only [logicG4, setRelay, drivePins_setWork, State.setWork_cfg, h, hcfg, h']
  rfl

theorem relayF2_of_failure (h : drivePins true
    (relayPins u.cfg ka ++ relayPins u.cfg kb ++ [sharedPullupPin u.cfg ka kb]) u = (false, t)) :
    relayF2 ka kb u = t.atStep 6 { u.work with pass := false, reason := .facadeFailure } := by
  simp only [relayF2, h]
  exact failTo_of_work (engine_of_drivePins h).1 _ _

theorem relayF4_of_firstFailure (h : (analogRead (measPin u.cfg ka) u).1 = none) :
    relayF4 ka kb u = (analogRead (measPin u.cfg ka) u).2.atStep 6
      { u.work with pass := false, reason := .facadeFailure } := by
  simp only [relayF4, measurePair, h, Option.map_none]
  rfl

theorem relayF4_of_secondFailure (h : (analogRead (measPin u.cfg ka) u).1 = some v)
    (h' : (analogRead (measPin u.cfg kb) (analogRead (measPin u.cfg ka) u).2).1 = none) :
    relayF4 ka kb u = (analogRead (measPin u.cfg kb) (analogRead (measPin u.cfg ka) u).2).2.atStep 6
      { u.work with pass := false, reason := .facadeFailure } := by
  have hcfg := (analogRead_frame (measPin u.cfg ka) u).1.cfg
  simp only [relayF4, measurePair, h, Option.map_some, hcfg, h', Option.map_none]
  rfl

end

/-- Settles O44. -/
theorem errorsInsideACheckBecomeReasons : Obligations.ErrorsInsideACheckBecomeReasons := by
  unfold Obligations.ErrorsInsideACheckBecomeReasons
  refine ⟨workerStep_responses, fun s sub h hs => ?_, fun s h hp => ?_⟩
  · intro u w k q lower exit legal
    have hstep (n : Nat) (h0 : n ≠ 0) (hn : s.pos.step = n) := workerStep_subject h hs (hn ▸ h0)
    refine ⟨fun hp => ⟨fun e t hn hc => ?_, fun e t hn hl hr => ?_, fun hn hl => ?_, fun hn hr => ?_⟩,
      fun hp => ⟨fun e t hn hc => ?_, fun e t hn hl hr => ?_, fun t hn hl hc => ?_, fun hn hr => ?_, fun t hn hw => ?_,
        fun hn hr => ?_⟩,
      fun hp => ⟨fun e t hn hc => ?_, fun e t hn hl hr => ?_, fun t hn hl hc => ?_, fun e t hn h1 h50 hr => ?_,
        fun hn hl => ?_, fun t hn hw => ?_, fun t t' hn hw hw' => ?_⟩⟩
    all_goals
      obtain ⟨hpower, hpull, hlogic⟩ := hstep _ (by decide) hn
      have hpos : s.awake.pos.step = _ := hn
    · rw [hpower hp, powerStep, hpos]
      exact powerP1_of_failure hc
    · rw [hpower hp, powerStep, hpos]
      exact powerP2_of_failure hr (routePin_error hl hr)
    · rw [hpower hp, powerStep, hpos]
      exact powerP2_of_failure (routePin_illegal hl _ _) rfl
    · rw [hpower hp, powerStep, hpos]
      exact powerP4_of_failure hr
    · rw [hpull hp, pullUpStep, hpos]
      exact pullUpU1_of_failure (routeClean_of_failure hc _ _) (clearAllLines_error hc)
    · rw [hpull hp, pullUpStep, hpos]
      exact pullUpU1_of_failure hr (routeClean_error hl hr)
    · rw [hpull hp, pullUpStep, hpos]
      exact pullUpU1_of_failure ((routeClean_of_cleared hc _ _).trans (routePin_illegal hl _ _)) rfl
    · rw [hpull hp, pullUpStep, hpos]
      exact pullUpU2_of_failure hr
    · rw [hpull hp, pullUpStep, hpos]
      exact pullUpU3_of_failure hw
    · rw [hpull hp, pullUpStep, hpos]
      exact pullUpU4_of_failure hr
    · rw [hlogic hp, logicStep, hpos]
      exact logicG1_of_failure (routeClean_of_failure hc _ _) (clearAllLines_error hc)
    · rw [hlogic hp, logicStep, hpos]
      exact logicG1_of_failure hr (routeClean_error hl hr)
    · rw [hlogic hp, logicStep, hpos]
      exact logicG1_of_failure ((routeClean_of_cleared hc _ _).trans (routePin_illegal hl _ _)) rfl
    · rw [hlogic hp, logicStep, hpos]
      exact logicG3_of_failure hr (routePin_error ⟨h1, h50⟩ hr)
    · rw [hlogic hp, logicStep, hpos]
      have hl' : ¬ (1 ≤ w.secondPin ∧ w.secondPin ≤ 50) := by omega
      exact logicG3_of_failure (routePin_illegal hl' _ _) rfl
    · rw [hlogic hp, logicStep, hpos]
      exact logicG4_of_firstFailure hw
    · rw [hlogic hp, logicStep, hpos]
      exact logicG4_of_secondFailure hw hw'
  · intro u w exit a b
    rw [workerStep_relay h hp]
    refine ⟨fun t hn hw => ?_, fun hn hr => ?_, fun v hn hr hr' => ?_, fun hn hseq => ?_⟩
    all_goals
      have hpos : s.awake.pos.step = _ := hn
      rw [relayStep, hpos]
    · exact relayF2_of_failure hw
    · exact relayF4_of_firstFailure hr
    · exact relayF4_of_secondFailure hr hr'
    · exact finish_record (u := u) hseq s.subj _

end Sys2Proof.Machine

/-!
PROOFS about cleanups and ShortCircuitTest (R229, R230, R240, R242, R253 to R255, R266).
-/

namespace Sys2Proof.Machine

/-! ## The pull-up line on the ways to U12 (R240, R242) -/

section
variable {s : State} {sub : Subject} {k : Nat}

theorem pullUpExit_low (k : Nat) (why : Reason) (s : State) : (pullUpExit k why s).pullup k ≠ some true :=
  setPullup_low k s

/-- A line written LOW, or a way that does not lead to U12. -/
theorem pullUpU3_low (k : Nat) (s : State) :
    (pullUpU3 k s).pos.step = 12 → (pullUpU3 k s).pullup k ≠ some true := by
  unfold pullUpU3
  dsimp only
  split
  · intro h
    cases h
  · exact fun _ => pullUpExit_low _ _ _

theorem pullUpU4_low (sub : Subject) (k : Nat) (s : State) :
    (pullUpU4 sub k s).pos.step = 12 → (pullUpU4 sub k s).pullup k ≠ some true := by
  unfold pullUpU4
  dsimp only
  split
  · exact fun _ => pullUpExit_low _ _ _
  · intro h
    cases h

theorem pullUpU5_low (sub : Subject) (k : Nat) (s : State) :
    (pullUpU5 sub k s).pos.step = 12 → (pullUpU5 sub k s).pullup k ≠ some true := by
  unfold pullUpU5
  split
  · intro h
    cases h
  · exact fun _ => pullUpExit_low _ _ _

theorem pullUpU6_low (sub : Subject) (k : Nat) (s : State) :
    (pullUpU6 sub k s).pos.step = 12 → (pullUpU6 sub k s).pullup k ≠ some true := by
  unfold pullUpU6
  dsimp only
  split
  · split
    · exact fun _ => setPullup_low k s
    · exact fun _ => setPullup_low k s
  · intro h
    cases h

theorem pullUpU7_low (sub : Subject) (k : Nat) (s : State) :
    (pullUpU7 sub k s).pos.step = 12 → (pullUpU7 sub k s).pullup k ≠ some true := by
  unfold pullUpU7
  split
  · exact fun _ => pullUpExit_low _ _ _
  · split
    · exact fun _ => pullUpExit_low _ _ _
    · intro h
      cases h

theorem pullUpU8_low (spec : Stimulus) (k : Nat) (s : State) :
    (pullUpU8 spec k s).pos.step = 12 → (pullUpU8 spec k s).pullup k ≠ some true := by
  unfold pullUpU8
  dsimp only
  split
  · exact fun _ => pullUpExit_low _ _ _
  · intro h
    cases h

/-- U9 and U10 go on to the restorations of U11 (R242). -/
theorem pullUpU9_step (spec : Stimulus) (h : s.pos.step = 9) : (pullUpU9 spec s).pos.step ≠ 12 := by
  unfold pullUpU9
  split
  · simp [h]
  · split <;> simp [h]

theorem pullUpU10_step (sub : Subject) (h : s.pos.step = 10) : (pullUpU10 sub s).pos.step ≠ 12 := by
  unfold pullUpU10
  dsimp only
  split
  · simp [h]
  · split <;> simp

/-- The way of PullUpTest to its cleanup step leaves the pull-up line not HIGH (R240, R242). -/
theorem pullUpStep_low (h3 : 3 ≤ s.pos.step) (h11 : s.pos.step ≤ 11)
    (hlow : s.pos.step = 11 → s.work.sub ≠ 0 → s.pullup (pairOfPin s.cfg sub.input.pin) ≠ some true)
    (h12 : (pullUpStep sub s).pos.step = 12) :
    (pullUpStep sub s).pullup (pairOfPin s.cfg sub.input.pin) ≠ some true := by
  revert h12
  obtain h | h | h | h | h | h | h | h | h : s.pos.step = 3 ∨ s.pos.step = 4 ∨ s.pos.step = 5 ∨ s.pos.step = 6 ∨
    s.pos.step = 7 ∨ s.pos.step = 8 ∨ s.pos.step = 9 ∨ s.pos.step = 10 ∨ s.pos.step = 11 := by omega
  all_goals rw [pullUpStep, h]
  · exact pullUpU3_low _ s
  · exact pullUpU4_low sub _ s
  · exact pullUpU5_low sub _ s
  · exact pullUpU6_low sub _ s
  · exact pullUpU7_low sub _ s
  · exact pullUpU8_low _ _ s
  · exact fun h12 => absurd h12 (pullUpU9_step _ h)
  · exact fun h12 => absurd h12 (pullUpU10_step _ h)
  · exact fun _ => pullUpU11_low _ _ (hlow h)

/-! ## Cleanups (R229) -/

/-- What a cleanup leaves of the check and of the rest of the block, as O46 lists it. -/
def CleanupKept (s t : State) : Prop :=
  t.work = { s.work with sub := 0 } ∧ t.subj = s.subj ∧ t.fleet = s.fleet ∧ t.responses = s.responses ∧ t.log = s.log

theorem CleanupKept.of_facadeOnly {u : State} (h : FacadeOnly s u) (n : Nat) : CleanupKept s (u.goto n) := by
  refine ⟨?_, h.subj, h.fleet, h.responses, h.log⟩
  rw [State.goto_work, h.work]

/-- The auxiliary lines first, then the control lines: none of them is HIGH (R229, R230). -/
theorem restored_not_high (ps : List FacadePin) {q : FacadePin} (h : q ∈ ps ∨ s.fp q ≠ some true) :
    (restoreLines (restorePins ps s)).fp q ≠ some true :=
  restorePins_not_high _ _ (.inr (restorePins_not_high ps s h))

theorem restored_facadeOnly (ps : List FacadePin) (s : State) : FacadeOnly s (restoreLines (restorePins ps s)) :=
  (restorePins_frame ps s).1.trans (restoreLines_frame _).1

/-- Relays that a cleanup names. -/
theorem restored_relays (ps : List FacadePin) {k : Nat} (h : ∀ q ∈ relayPins s.cfg k, q ∈ ps) (n : Nat) :
    ∀ l ∈ ((restoreLines (restorePins ps s)).goto n).relay k, l ≠ some true := by
  intro l hl
  have hcfg : ((restoreLines (restorePins ps s)).goto n).cfg = s.cfg := (restored_facadeOnly ps s).cfg
  rw [State.relay, hcfg] at hl
  obtain ⟨q, hq, rfl⟩ := List.mem_map.1 hl
  exact restored_not_high ps (.inl (h q hq))

theorem powerP15_cleans (s : State) :
    CleanupKept s (powerP15 s) ∧ (∀ i, (powerP15 s).line i ≠ some true) ∧ (powerP15 s).pos.step = 16 :=
  ⟨.of_facadeOnly (restoreLines_frame s).1 16, restoreLines_not_high s, rfl⟩

theorem pullUpU12_cleans (s : State) :
    CleanupKept s (pullUpU12 s) ∧ (∀ i, (pullUpU12 s).line i ≠ some true) ∧ (pullUpU12 s).pos.step = 13 ∧
      ∀ k, s.pullup k ≠ some true → (pullUpU12 s).pullup k ≠ some true := by
  refine ⟨.of_facadeOnly (restoreLines_frame s).1 13, restoreLines_not_high s, rfl, fun k hk => ?_⟩
  have hcfg : (pullUpU12 s).cfg = s.cfg := (restoreLines_frame s).1.cfg
  rw [State.pullup, hcfg]
  exact restorePins_not_high _ _ (.inr hk)

theorem logicG8_cleans (sub : Subject) (s : State) :
    CleanupKept s (logicG8 sub s) ∧ (∀ i, (logicG8 sub s).line i ≠ some true) ∧ (logicG8 sub s).pos.step = 9 ∧
      (1 ≤ s.work.relays → ∀ l ∈ (logicG8 sub s).relay (pairOfPin s.cfg sub.input.pin), l ≠ some true) ∧
      (2 ≤ s.work.relays → ∀ l ∈ (logicG8 sub s).relay (pairOfPin s.cfg s.work.secondPin), l ≠ some true) := by
  refine ⟨.of_facadeOnly (restored_facadeOnly _ s) 9, restoreLines_not_high _, rfl, fun h1 => ?_, fun h2 => ?_⟩
  · exact restored_relays _ (fun q hq => List.mem_append_left _ (by rwa [if_pos h1])) 9
  · exact restored_relays _ (fun q hq => List.mem_append_right _ (by rwa [if_pos h2])) 9

theorem sweepNext_cases (p : Nat) (s : State) :
    sweepNext p s = if p < 50 then (s.setPos { s.pos with idx := p + 1 }).goto 1 else s.goto 7 := rfl

theorem sweepS5_cleans {p : Nat} (hp : s.pos.phase = .sweep) (hidx : s.pos.idx = p) :
    CleanupKept s (sweepS5 p s) ∧ (∀ i, (sweepS5 p s).line i ≠ some true) ∧
      (sweepS5 p s).pullup (pairOfPin s.cfg p) ≠ some true ∧
      (sweepS5 p s).pos = if p < 50 then { phase := .sweep, idx := p + 1, step := 1 }
        else { phase := .sweep, idx := p, step := 7 } := by
  have hclean : restoreLines (setPullup (pairOfPin s.cfg p) false s).2 =
      restoreLines (restorePins [pullupPin s.cfg (pairOfPin s.cfg p)] s) := rfl
  have hf := restored_facadeOnly [pullupPin s.cfg (pairOfPin s.cfg p)] s
  have hlow : (restoreLines (restorePins [pullupPin s.cfg (pairOfPin s.cfg p)] s)).fp
      (pullupPin s.cfg (pairOfPin s.cfg p)) ≠ some true := restored_not_high _ (.inl (by simp))
  rw [sweepS5, hclean, sweepNext_cases]
  split
  · refine ⟨.of_facadeOnly hf 1, restoreLines_not_high _, ?_, ?_⟩
    · rw [State.pullup]
      have hcfg := hf.cfg
      simp only [State.goto_cfg, State.setPos_cfg, hcfg]
      exact hlow
    · simp [hp]
  · refine ⟨.of_facadeOnly hf 7, restoreLines_not_high _, ?_, ?_⟩
    · rw [State.pullup]
      have hcfg := hf.cfg
      simp only [State.goto_cfg, hcfg]
      exact hlow
    · simp [hp, hidx]

theorem relayF6_cleans (ka kb : Nat) (s : State) :
    CleanupKept s (relayF6 ka kb s) ∧ (∀ i, (relayF6 ka kb s).line i ≠ some true) ∧
      (relayF6 ka kb s).sharedPullup ka kb ≠ some true ∧
      (∀ l ∈ (relayF6 ka kb s).relay ka ++ (relayF6 ka kb s).relay kb, l ≠ some true) ∧
      (relayF6 ka kb s).pos.step = 7 := by
  have hf := restored_facadeOnly (sharedPullupPin s.cfg ka kb :: (relayPins s.cfg ka ++ relayPins s.cfg kb)) s
  refine ⟨.of_facadeOnly hf 7, restoreLines_not_high _, ?_, fun l hl => ?_, rfl⟩
  · have hcfg : (relayF6 ka kb s).cfg = s.cfg := hf.cfg
    rw [State.sharedPullup, hcfg]
    exact restored_not_high _ (.inl (by simp))
  · rcases List.mem_append.1 hl with hl | hl
    · exact restored_relays _ (fun q hq => List.mem_cons_of_mem _ (List.mem_append_left _ hq)) 7 l hl
    · exact restored_relays _ (fun q hq => List.mem_cons_of_mem _ (List.mem_append_right _ hq)) 7 l hl

end

/-- Settles O46. -/
theorem cleanupLeavesNoLineHigh : Obligations.CleanupLeavesNoLineHigh := by
  unfold Obligations.CleanupLeavesNoLineHigh
  refine ⟨fun s sub hinv hp h3 h11 hs h12 => ?_, fun s hb hw => ?_⟩
  · by_cases hr : s.ready
    · have hturn := (workerStep_subject hr hs (by omega)).2.1 hp
      obtain ⟨-, -, -, -, -, hpull, -⟩ := hinv
      rw [hturn] at h12 ⊢
      exact pullUpStep_low (s := s.awake) h3 h11 (fun h hsub => hpull hr.1 hp h hsub sub hs) h12
    · rw [workerStep_not_ready hr] at h12
      omega
  · intro t kept
    have ht : t = engineStep s := workerStep_awake hb hw
    refine ⟨fun sub hp hn hs => ?_, fun sub hp hn hs => ?_, fun sub hp hn hs => ?_, fun hp hn => ?_, fun hp hn => ?_⟩
    · have h : t = powerP15 s := by
        rw [ht, (engineStep_subject hs).1 hp, if_neg (by omega)]
        simp only [powerStep, hn]
      have hclean := powerP15_cleans s
      rwa [← h] at hclean
    · have h : t = pullUpU12 s := by
        rw [ht, (engineStep_subject hs).2.1 hp, if_neg (by omega)]
        simp only [pullUpStep, hn]
      have hclean := pullUpU12_cleans s
      rwa [← h] at hclean
    · have h : t = logicG8 sub s := by
        rw [ht, (engineStep_subject hs).2.2 hp, if_neg (by omega)]
        simp only [logicStep, hn]
      have hclean := logicG8_cleans sub s
      rwa [← h] at hclean
    · have h : t = sweepS5 s.pos.idx s := by
        simp only [ht, engineStep, hp, sweepStep, hn]
      have hclean := sweepS5_cleans hp rfl
      rwa [← h] at hclean
    · have h : t = relayF6 s.work.pairA s.work.pairB s := by
        simp only [ht, engineStep, hp, relayStep, hn]
      have hclean := relayF6_cleans s.work.pairA s.work.pairB s
      rwa [← h] at hclean

/-! ## ShortCircuitTest, turn by turn (R253, R254) -/

section
variable {u t t' : State} {e : Err} {p : Nat} {v : Volts}

/-- Where a facade failure sends the sweep (R253, R230). -/
theorem sweepFailure_of_work (h : t.work = u.work) : sweepFailure p t =
    t.atStep 5 { u.work with shorts := u.work.shorts ++ [{ outer := p, inner := none, voltage := none }] } := by
  rw [← h]
  rfl

theorem sweepS2_of_routeFailure (h : routeClean p .A u = (some e, t)) : sweepS2 p u = sweepFailure p t := by
  simp only [sweepS2, h]

theorem sweepS2_of_pullupFailure (h : routeClean p .A u = (none, t))
    (hw : digitalWrite (pullupPin u.cfg (pairOfPin u.cfg p)) true t = (false, t')) :
    sweepS2 p u = sweepFailure p t' := by
  have hcfg : t.cfg = u.cfg := by
    have := (routeClean_frame p .A u).1.cfg
    rwa [h] at this
  simp only [sweepS2, setPullup, h, hcfg, hw]
  rfl

theorem sweepS3_of_reading (h : (analogRead (measPin u.cfg (pairOfPin u.cfg p)) u).1 = some v) : sweepS3 p u =
    (analogRead (measPin u.cfg (pairOfPin u.cfg p)) u).2.atStep 4
      { u.work with vexp := degradeVolts u.cfg (u.cfg.vScale * v), inner := 1 } := by
  simp only [sweepS3, measure_eq, h, Option.map_some]
  rfl

theorem sweepS3_of_failure (h : (analogRead (measPin u.cfg (pairOfPin u.cfg p)) u).1 = none) : sweepS3 p u =
    sweepFailure p (analogRead (measPin u.cfg (pairOfPin u.cfg p)) u).2 := by
  simp only [sweepS3, measure_eq, h, Option.map_none]

theorem sweepRoute_of_failure (h : routeClean p .A u = (some e, t)) : sweepRoute p u = sweepFailure p t := by
  simp only [sweepRoute, h]

theorem sweepRoute_of_innerFailure (h : routeClean p .A u = (none, t))
    (hr : routePin u.work.inner .B t = (some e, t')) : sweepRoute p u = sweepFailure p t' := by
  simp only [sweepRoute, h, hr]

theorem sweepMeasure_of_failure (h : (analogRead (measPin u.cfg (pairOfPin u.cfg u.work.inner)) u).1 = none) :
    sweepMeasure p u = sweepFailure p (analogRead (measPin u.cfg (pairOfPin u.cfg u.work.inner)) u).2 := by
  simp only [sweepMeasure, measure_eq, h, Option.map_none]

/-- The sweep's reading of an inner pin (R253, R254). -/
theorem sweepMeasure_of_reading (h : (analogRead (measPin u.cfg (pairOfPin u.cfg u.work.inner)) u).1 = some v) :
    sweepMeasure p u =
      let r := (analogRead (measPin u.cfg (pairOfPin u.cfg u.work.inner)) u).2
      if sweepGood u.cfg p u.work.inner u.work.vexp (u.cfg.vScale * v) then sweepAdvance r
      else sweepAdvance (r.addShort { outer := p, inner := some u.work.inner, voltage := some (u.cfg.vScale * v) }) := by
  simp only [sweepMeasure, measure_eq, h, Option.map_some]

end

/-! ## Routes, when the facade answers well -/

section
variable {s : State}

theorem State.wrote_facadeOnly (s : State) (l : Bool) (ps : List FacadePin) : FacadeOnly s (s.wrote l ps) := rfl

@[simp] theorem State.wrote_cfg (s : State) (l : Bool) (ps : List FacadePin) : (s.wrote l ps).cfg = s.cfg := rfl

theorem digitalWrite_wrote (h : s.writesSucceed 1) (q : FacadePin) (l : Bool) :
    digitalWrite q l s = (true, s.wrote l [q]) := (digitalWrite_good (n := 0) h q l).1

/-- `clearAll()`, then a route (R204, R206). -/
theorem routeClean_good {pin : Nat} {sch : Scheme} {pat : Pattern} (h1 : 1 ≤ pin)
    (ht : tableEntry s.cfg pin sch = some pat) (hw : s.writesSucceed (16 + (patternLines pat).length)) :
    routeClean pin sch s = (none, (s.wrote false s.cfg.linePin.toList).wrote true (linePins s.cfg pat)) := by
  obtain ⟨hclear, hroute⟩ := s.writesSucceed_split hw false s.cfg.linePin.toList (by simp)
  rw [routeClean_of_cleared (clearAllLines_good hclear)]
  exact routePin_good h1 ht hroute

/-- What a pin holds after `clearAll()` and a route. -/
theorem routed_fp (s : State) (ps : List FacadePin) (q : FacadePin) :
    ((s.wrote false s.cfg.linePin.toList).wrote true ps).fp q =
      if q ∈ ps then some true else if q ∈ s.cfg.linePin.toList then some false else s.fp q := by
  rw [State.wrote_fp, State.wrote_fp]

/-- What a pin holds after `clearAll()` and two routes. -/
theorem routedTwice_fp (s : State) (ps ps' : List FacadePin) (q : FacadePin) :
    (((s.wrote false s.cfg.linePin.toList).wrote true ps).wrote true ps').fp q =
      if q ∈ ps' ∨ q ∈ ps then some true else if q ∈ s.cfg.linePin.toList then some false else s.fp q := by
  rw [State.wrote_fp, routed_fp]
  by_cases hq : q ∈ ps' <;> simp [hq]

/-- S2, the facade answering well. -/
theorem sweepS2_good {p : Nat} {pat : Pattern} (h1 : 1 ≤ p) (ht : tableEntry s.cfg p .A = some pat)
    (hw : s.writesSucceed (16 + (patternLines pat).length + 1)) :
    let t := ((s.wrote false s.cfg.linePin.toList).wrote true (linePins s.cfg pat)).wrote true
      [pullupPin s.cfg (pairOfPin s.cfg p)]
    sweepS2 p s = t.atStep 3 { s.work with wake := some (s.env.now + s.cfg.settle) } := by
  obtain ⟨hroute, -⟩ := s.writesSucceed_split hw false
    (s.cfg.linePin.toList ++ linePins s.cfg pat) (by simp [linePins_length])
  obtain ⟨hclear, hrest⟩ := s.writesSucceed_split (a := 16) (b := (patternLines pat).length + 1)
    (by rwa [← Nat.add_assoc]) false s.cfg.linePin.toList (by simp)
  obtain ⟨-, hone⟩ := (s.wrote false s.cfg.linePin.toList).writesSucceed_split hrest true (linePins s.cfg pat)
    (linePins_length _ _)
  simp only [sweepS2, routeClean_good h1 ht hroute, setPullup, digitalWrite_wrote hone, State.wrote_cfg, if_true]
  rfl

/-- The first half of S4, the facade answering well. -/
theorem sweepRoute_good {p : Nat} {pat pat' : Pattern} (h1 : 1 ≤ p) (ht : tableEntry s.cfg p .A = some pat)
    (hi : 1 ≤ s.work.inner) (ht' : tableEntry s.cfg s.work.inner .B = some pat')
    (hw : s.writesSucceed (16 + (patternLines pat).length + (patternLines pat').length)) (h0 : s.work.sub = 0) :
    let t := ((s.wrote false s.cfg.linePin.toList).wrote true (linePins s.cfg pat)).wrote true (linePins s.cfg pat')
    sweepRoute p s = { t with work := { s.work with sub := 1, wake := some (s.env.now + s.cfg.settle) } } := by
  obtain ⟨hroute, -⟩ := s.writesSucceed_split hw false
    (s.cfg.linePin.toList ++ linePins s.cfg pat) (by simp [linePins_length])
  obtain ⟨hclear, hrest⟩ := s.writesSucceed_split (a := 16) (b := (patternLines pat).length + (patternLines pat').length)
    (by rwa [← Nat.add_assoc]) false s.cfg.linePin.toList (by simp)
  obtain ⟨-, hinner⟩ := (s.wrote false s.cfg.linePin.toList).writesSucceed_split hrest true (linePins s.cfg pat)
    (linePins_length _ _)
  have hr := routePin_good (s := (s.wrote false s.cfg.linePin.toList).wrote true (linePins s.cfg pat)) hi ht' hinner
  simp only [sweepRoute, routeClean_good h1 ht hroute, hr]
  simp only [State.sleep, State.nextPart, State.setWork, State.wrote, h0]

/-- S7 answers the failed list (R253, R266). -/
theorem sweepS7_alone (h : s.work.inSeq = false) : sweepS7 s = { s with
    busy := false
    pos := .idle
    work := .idle
    responses := .okValue (.check
      { measured := .shorts s.work.shorts
        pass := s.work.shorts.isEmpty && !s.facadeClosed
        reason := if s.facadeClosed then .facadeFailure
          else if s.work.shorts = [] then .ok else .shortsFound }) :: s.responses } := by
  have hreason : (if s.facadeClosed then Reason.facadeFailure
      else if s.work.shorts.isEmpty && !s.facadeClosed then .ok else .shortsFound) =
      if s.facadeClosed then .facadeFailure else if s.work.shorts = [] then .ok else .shortsFound := by
    cases s.facadeClosed <;> simp
  rw [sweepS7, hreason]
  exact finish_record h s.subj _

end

/-- Settles O45. -/
theorem shortCircuitTestSteps : Obligations.ShortCircuitTestSteps := by
  unfold Obligations.ShortCircuitTestSteps
  intro s pat pat' h hp h1 ht u w p pull own other settled failed
  have hturn (n : Nat) (hn : s.pos.step = n) : workerStep s = sweepStep u ∧ u.pos.step = n ∧ u.pos.idx = p :=
    ⟨workerStep_sweep h hp, hn, rfl⟩
  refine ⟨fun hn hstop => ?_, fun hn hw => ?_, fun e t hn hr => ?_, fun t t' hn hr hw => ?_, fun v hn hv => ?_,
    fun hn hv => ?_, fun hn h0 hi ht' hw => ?_, fun e t hn h0 hr => ?_, fun e t t' hn h0 hr hr' => ?_,
    fun hn h0 hv => ?_, fun hn hseq => ?_⟩
  all_goals
    obtain ⟨hstep, hpos, hidx⟩ := hturn _ hn
    rw [hstep]
    simp only [sweepStep, hpos, hidx]
  · simp only [sweepS1, show u.stopRequested = false from hstop]
    rfl
  · refine ⟨_, sweepS2_good (s := u) h1 ht hw, rfl, fun q => ?_⟩
    exact (routedTwice_fp u _ _ q).trans (if_congr (or_congr_left List.mem_singleton) rfl rfl)
  · exact (sweepS2_of_routeFailure hr).trans (sweepFailure_of_work (work_of_routeClean hr))
  · rw [sweepS2_of_pullupFailure hr hw]
    exact sweepFailure_of_work ((engine_of_digitalWrite hw).1.trans (work_of_routeClean hr))
  · exact sweepS3_of_reading hv
  · exact (sweepS3_of_failure hv).trans (sweepFailure_of_work rfl)
  · rw [sweepS4, if_pos h0]
    refine ⟨_, sweepRoute_good (s := u) h1 ht hi ht' hw h0, rfl, fun q => ?_⟩
    exact (routedTwice_fp u _ _ q).trans (if_congr or_comm rfl rfl)
  · rw [sweepS4, if_pos h0, sweepRoute_of_failure hr]
    exact sweepFailure_of_work (work_of_routeClean hr)
  · rw [sweepS4, if_pos h0, sweepRoute_of_innerFailure hr hr']
    exact sweepFailure_of_work ((work_of_routePin hr').trans (work_of_routeClean hr))
  · rw [sweepS4, if_neg h0, sweepMeasure_of_failure hv]
    exact sweepFailure_of_work rfl
  · exact sweepS7_alone hseq

/-! ## The inner step of the sweep (R253 S4, R254) -/

/-- On to the next inner pin, or to S5 after the last. -/
theorem sweepAdvance_spec (r : State) :
    (sweepAdvance r).work.shorts = r.work.shorts ∧
    (r.work.inner < 50 → (sweepAdvance r).pos = { r.pos with step := 4 } ∧
      (sweepAdvance r).work.inner = r.work.inner + 1 ∧ (sweepAdvance r).work.sub = 0) ∧
    (50 ≤ r.work.inner → (sweepAdvance r).pos = { r.pos with step := 5 }) ∧
    (sweepAdvance r).pins = r.pins ∧ (sweepAdvance r).subj = r.subj ∧ (sweepAdvance r).fleet = r.fleet ∧
    (sweepAdvance r).busy = r.busy ∧ (sweepAdvance r).responses = r.responses ∧
    (sweepAdvance r).facade = r.facade := by
  unfold sweepAdvance
  split
  · rename_i h
    exact ⟨rfl, fun _ => ⟨rfl, rfl, rfl⟩, fun h' => absurd h (by omega), rfl, rfl, rfl, rfl, rfl, rfl⟩
  · rename_i h
    exact ⟨rfl, fun h' => absurd h' h, fun _ => rfl, rfl, rfl, rfl, rfl, rfl, rfl⟩

/-- An inner pin reads wrong exactly when it is recorded (R254). -/
theorem sweepGood_iff (cfg : Cfg) (p q : Nat) (vexp m : Volts) : ¬ sweepGood cfg p q vexp m = true ↔
    if q = p then cfg.tol < absRat (m - vexp) else cfg.tol < absRat m := by
  unfold sweepGood within nearZero
  split <;> simp

/-- Settles O40. -/
theorem sweepRecordsWrongPins : Obligations.SweepRecordsWrongPins := by
  unfold Obligations.SweepRecordsWrongPins
  intro s v t0 vs hb hp hn hsub hwake ht0 hopen hreads q m wrong t
  have hr : s.ready := ⟨hb, fun t ht => by rw [hwake] at ht; exact Option.some.inj ht ▸ ht0⟩
  have hread := analogRead_listed (s := s.awake) hopen hreads (measPin s.cfg (pairOfPin s.cfg q))
  have hturn : t = sweepMeasure s.pos.idx s.awake := by
    have h0 : ¬ s.awake.work.sub = 0 := by simp [hsub]
    have hstep : s.awake.pos.step = 4 := hn
    have hsweep : t = sweepStep s.awake := workerStep_sweep hr hp
    rw [hsweep, sweepStep, hstep]
    simp only [sweepS4, if_neg h0]
    rfl
  rw [sweepMeasure_of_reading (u := s.awake) (congrArg Prod.fst hread)] at hturn
  dsimp only at hturn
  have hread' : (analogRead (measPin s.awake.cfg (pairOfPin s.awake.cfg s.awake.work.inner)) s.awake).2 = _ :=
    congrArg Prod.snd hread
  have hpos : s.pos = { s.pos with step := 4 } := by rw [← hn]
  rw [hread'] at hturn
  by_cases hgood : sweepGood s.awake.cfg s.pos.idx s.awake.work.inner s.awake.work.vexp (s.awake.cfg.vScale * v) = true
  · rw [if_pos hgood] at hturn
    obtain ⟨hshorts, hlt, hge, hpins, hsubj, hfleet, hbusy, hresp, hcalls⟩ := sweepAdvance_spec _
    rw [← hturn] at hshorts hlt hge hpins hsubj hfleet hbusy hresp hcalls
    have hwrong : ¬ wrong := fun h => (sweepGood_iff _ _ _ _ _).2 h hgood
    exact ⟨fun h => absurd h hwrong, fun _ => hshorts, fun h => hpos ▸ hlt h, hge, hpins, hsubj, hfleet,
      hbusy.trans hb, hresp, hcalls⟩
  · rw [if_neg hgood] at hturn
    obtain ⟨hshorts, hlt, hge, hpins, hsubj, hfleet, hbusy, hresp, hcalls⟩ := sweepAdvance_spec _
    rw [← hturn] at hshorts hlt hge hpins hsubj hfleet hbusy hresp hcalls
    have hwrong : wrong := (sweepGood_iff _ _ _ _ _).1 hgood
    exact ⟨fun _ => hshorts, fun h => absurd hwrong h, fun h => hpos ▸ hlt h, hge, hpins, hsubj, hfleet,
      hbusy.trans hb, hresp, hcalls⟩

end Sys2Proof.Machine

/-!
PROOFS about STARTALL and STOPALL: one card a turn, and the whole with no other agent between (R16, R79, R171, R188,
R189).
-/

namespace Sys2Proof.Machine

/-! ## One turn of a caller -/

/-- The request of one card that an operation in progress makes (R188, R189). -/
def FleetOp.request (op : FleetOp) (s : State) : Response × State :=
  match op.kind with
  | .startAll => fleetStart op.next s
  | .stopAll => fleetStop op.next s

/-- What a response adds to the answer of the operation (R188). -/
def FleetOp.answered (op : FleetOp) (r : Response) : List (Nat × Bool) :=
  match op.kind, r with
  | .startAll, .okValue (.bool b) => [(op.next, b)]
  | _, _ => []

section
variable {s : State}

/-- The operation takes the card its request names, and keeps its answer. -/
theorem FleetOp.takeCard_eq (op : FleetOp) (s : State) : op.takeCard s =
    ({ op with next := op.next + 1, started := op.started ++ op.answered (op.request s).1 }, (op.request s).2) := by
  unfold FleetOp.takeCard FleetOp.request FleetOp.answered
  cases hk : op.kind with
  | stopAll => simp
  | startAll =>
    unfold startCard fleetStart
    cases hc : s.chan op.next <;> simp

theorem startChannel_frame (c : Int) (ch : Channel) (s : State) : (startChannel c ch s).2 = { s with
    fleet := (startChannel c ch s).2.fleet
    env := { s.env with draws := (startChannel c ch s).2.env.draws, binds := (startChannel c ch s).2.env.binds }
    log := (startChannel c ch s).2.log } := by
  have hbind := s.env.drawBind_frame
  rcases startChannel_cases c ch s with ⟨-, h⟩ | ⟨-, h⟩ | ⟨-, -, h⟩ | ⟨-, -, h⟩ <;> rw [h]
  · change State.mk _ _ _ _ _ _ _ _ _ _ s.env.drawBind.2 _ _ _ = State.mk _ _ _ _ _ _ _ _ _ _ _ _ _ _
    rw [hbind]
    rfl
  · change State.mk _ _ _ _ _ _ _ _ _ _ s.env.drawBind.2 _ _ _ = State.mk _ _ _ _ _ _ _ _ _ _ _ _ _ _
    rw [hbind]
    rfl

theorem FleetOp.request_frame (op : FleetOp) (s : State) : (op.request s).2 =
    { s with fleet := (op.request s).2.fleet, env := (op.request s).2.env, log := (op.request s).2.log } := by
  unfold FleetOp.request fleetStart fleetStop
  cases op.kind with
  | startAll =>
    dsimp only
    split
    · rfl
    · dsimp only
      rw [startChannel_frame]
  | stopAll =>
    dsimp only
    split <;> rfl

/-- START and STOP of the card answer the request (R186). -/
theorem exec_request (op : FleetOp) (s : State) :
    exec (match op.kind with | .startAll => .start op.next | .stopAll => .stop op.next) s =
      .next ((op.request s).2.respond (op.request s).1) := by
  unfold FleetOp.request
  cases op.kind <;> rfl

end

/-! ## A run of turns -/

/-- The agenda from here on. -/
def State.setAgenda (s : State) (l : List Input) : State := s.setEnv { s.env with agenda := l }

/-- The cards an operation takes in `n` turns, with no other agent between. -/
def FleetOp.takeCards : Nat → FleetOp → State → FleetOp × State
  | 0, op, s => (op, s)
  | n + 1, op, s => takeCards n (op.takeCard s).1 (op.takeCard s).2

section
variable (s : State)

/-- A card's operation does not see the other operations in progress, nor the agenda. -/
theorem startChannel_wrap (c : Int) (ch : Channel) (l : List FleetOp) (a : List Input) :
    startChannel c ch ((s.setFleetOps l).setAgenda a) =
      ((startChannel c ch s).1, ((startChannel c ch s).2.setFleetOps l).setAgenda a) := by
  have hdraw : ({ s.env with agenda := a } : Env).drawBind =
      (s.env.drawBind.1, { s.env.drawBind.2 with agenda := a }) := by
    unfold Env.drawBind
    cases s.env.binds <;> rfl
  have henv : ((s.setFleetOps l).setAgenda a).env = { s.env with agenda := a } := rfl
  unfold startChannel
  rw [henv, hdraw]
  cases ch.run with
  | created =>
    dsimp only
    split <;> rfl
  | running | stopped | failed => rfl

theorem FleetOp.takeCard_wrap (op : FleetOp) (l : List FleetOp) (a : List Input) :
    op.takeCard ((s.setFleetOps l).setAgenda a) =
      ((op.takeCard s).1, ((op.takeCard s).2.setFleetOps l).setAgenda a) := by
  have hchan (c : Int) : ((s.setFleetOps l).setAgenda a).chan c = s.chan c := rfl
  unfold FleetOp.takeCard
  cases op.kind with
  | startAll =>
    unfold startCard
    rw [hchan]
    dsimp only
    split
    · rfl
    · rw [startChannel_wrap]
  | stopAll =>
    unfold fleetStop
    rw [hchan]
    dsimp only
    split <;> rfl

theorem FleetOp.takeCard_next (op : FleetOp) : (op.takeCard s).1.next = op.next + 1 := by
  rw [FleetOp.takeCard_eq]

/-- A turn of the last caller in the list. -/
theorem callerStep_last (op : FleetOp) (ops : List FleetOp) (a : List Input) :
    callerStep ops.length ((s.setFleetOps (ops ++ [op])).setAgenda a) =
      if op.next < 7 then ((op.takeCard s).2.setFleetOps (ops ++ [(op.takeCard s).1])).setAgenda a
      else (((op.takeCard s).2.setFleetOps ops).setAgenda a).respond (op.takeCard s).1.response := by
  have hget : ((s.setFleetOps (ops ++ [op])).setAgenda a).fleetOps[ops.length]? = some op := by
    change (ops ++ [op])[ops.length]? = some op
    simp
  rcases callerStep_cases ops.length ((s.setFleetOps (ops ++ [op])).setAgenda a) with
    ⟨hnone, -⟩ | ⟨op', hop', ⟨h7, e⟩ | ⟨h7, e⟩⟩
  · rw [hget] at hnone
    cases hnone
  · obtain rfl := Option.some.inj (hget.symm.trans hop')
    rw [e, if_pos h7, FleetOp.takeCard_wrap]
    have hset : (ops ++ [op]).set ops.length (op.takeCard s).1 = ops ++ [(op.takeCard s).1] := by simp
    change (((op.takeCard s).2.setFleetOps (ops ++ [op])).setAgenda a).setFleetOps
      ((ops ++ [op]).set ops.length (op.takeCard s).1) = _
    rw [hset]
    rfl
  · obtain rfl := Option.some.inj (hget.symm.trans hop')
    rw [e, if_neg (by omega), FleetOp.takeCard_wrap]
    have herase : (ops ++ [op]).eraseIdx ops.length = ops := by
      rw [List.eraseIdx_append_of_length_le (le_refl _)]
      simp
    change ((((op.takeCard s).2.setFleetOps (ops ++ [op])).setAgenda a).setFleetOps
      ((ops ++ [op]).eraseIdx ops.length)).respond _ = _
    rw [herase]
    rfl

/-- The caller's turn comes first. -/
theorem stepN_caller {n k : Nat} {s : State} {l : List Input} (h : s.env.agenda = .caller k :: l) :
    stepN (n + 1) s = stepN n (callerStep k (s.setAgenda l)) := by
  simp only [stepN, step, fetchInput, h, runInput]
  rfl

/-- The operation goes through its cards to the last one, and answers. -/
theorem stepN_fleetOp (n : Nat) (op : FleetOp) (ops : List FleetOp) (rest : List Input) (hn : op.next + n = 7) :
    stepN (n + 1) ((s.setFleetOps (ops ++ [op])).setAgenda (List.replicate (n + 1) (.caller ops.length) ++ rest)) =
      .next ((((op.takeCards (n + 1) s).2.setFleetOps ops).setAgenda rest).respond
        (op.takeCards (n + 1) s).1.response) := by
  induction n generalizing op s with
  | zero =>
    rw [stepN_caller rfl]
    change stepN 0 (callerStep ops.length ((s.setFleetOps (ops ++ [op])).setAgenda rest)) = _
    rw [callerStep_last, if_neg (by omega)]
    rfl
  | succ n ih =>
    rw [stepN_caller rfl]
    change stepN (n + 1) (callerStep ops.length ((s.setFleetOps (ops ++ [op])).setAgenda
      (List.replicate (n + 1) (.caller ops.length) ++ rest))) = _
    rw [callerStep_last, if_pos (by omega), ih _ _ (by rw [FleetOp.takeCard_next]; omega)]
    rfl

end

/-- The whole of a STARTALL or STOPALL with no other agent between. -/
theorem stepN_startstop {s : State} {i : Instr} {kind : FleetOpKind} {rest : List Input}
    (hd : decode (encode i) = .ok i) (hi : i.isEvent = false) (he : ∀ t, exec i t = .next (t.beginFleetOp kind))
    (h : s.env.agenda = .command (encode i) :: (List.replicate 7 (.caller s.fleetOps.length) ++ rest)) :
    stepN 8 s = .next (((((⟨kind, 1, []⟩ : FleetOp).takeCards 7 s).2.setFleetOps s.fleetOps).setAgenda rest).respond
      ((⟨kind, 1, []⟩ : FleetOp).takeCards 7 s).1.response) := by
  rw [stepN_command h hd hi (he _)]
  exact stepN_fleetOp s 6 ⟨kind, 1, []⟩ s.fleetOps rest rfl

/-! ## What startAll leaves (R171, R188) -/

/-- `startAll` of a list of cards: what was answered, and the state after. -/
def startCards : List Nat → State → List (Nat × Bool) × State
  | [], s => ([], s)
  | c :: cs, s => ((startCard c s).1 ++ (startCards cs (startCard c s).2).1, (startCards cs (startCard c s).2).2)

/-- A STARTALL in progress takes its cards in ascending order. -/
theorem takeCards_startAll (n next : Nat) (started : List (Nat × Bool)) (s : State) :
    (⟨.startAll, next, started⟩ : FleetOp).takeCards n s =
      (⟨.startAll, next + n, started ++ (startCards (List.range' next n) s).1⟩, (startCards (List.range' next n) s).2) := by
  induction n generalizing next started s with
  | zero => simp [FleetOp.takeCards, startCards]
  | succ n ih =>
    rw [FleetOp.takeCards, List.range'_succ, startCards]
    simp only [FleetOp.takeCard, ih, List.append_assoc]
    rw [Nat.add_right_comm, Nat.add_assoc]

/-- Neither writes anything but channels, draws of binds and diagnostics. -/
def StartFrame (s t : State) : Prop := t = { s with
  fleet := t.fleet
  env := { s.env with draws := t.env.draws, binds := t.env.binds }
  log := t.log }

theorem StartFrame.trans {s t u : State} (h : StartFrame s t) (k : StartFrame t u) : StartFrame s u := by
  unfold StartFrame at *
  rw [k, h]

/-- A start of a channel turns it from `a` to `b` at a time (R171). -/
def StartedAt (now : Time) (a b : Channel) : Prop :=
  (a.run ≠ .created → b = a) ∧
  (a.run = .created → b = { a with run := .running, startedAt := some now } ∨ b = { a with run := .failed })

/-- The diagnostic of a failed bind (R171). -/
def bindLog (a b : Option Channel) : Option Diagnostic :=
  a.bind fun a => b.bind fun b => if a.run = .created ∧ b.run = .failed then some (.bindFailure a.id) else none

/-- What the start of one card leaves, and draws. -/
theorem startCard_spec {s : State} {c : Nat} {ch : Channel} (h : s.chan c = some ch) :
    ∃ ch', (∀ d : Int, (startCard c s).2.chan d = if d = c then some ch' else s.chan d) ∧ StartedAt s.env.now ch ch' ∧
      StartFrame s (startCard c s).2 ∧ (startCard c s).1 = [(c, decide (ch'.run = .running))] ∧
      (startCard c s).2.log = (bindLog (some ch) (some ch')).toList ++ s.log ∧
      (ch.run ≠ .created → (startCard c s).2.env = s.env) ∧
      (ch.run = .created → (startCard c s).2.env = s.env.drawBind.2 ∧
        decide (ch'.run = .running) = s.env.drawBind.1) := by
  have hself (t : State) (ht : t = s) (d : Int) : t.chan d = if d = c then some ch else s.chan d := by
    rw [ht]
    split
    · rename_i hd
      rw [hd, h]
    · rfl
  have hcard : startCard c s = ([(c, (startChannel c ch s).1)], (startChannel c ch s).2) := by
    unfold startCard
    rw [h]
  have hframe : StartFrame s (startCard c s).2 := by
    rw [hcard]
    exact startChannel_frame c ch s
  rcases startChannel_cases c ch s with ⟨hr, e⟩ | ⟨hr, e⟩ | ⟨hr, hb, e⟩ | ⟨hr, hb, e⟩ <;> rw [hcard] at hframe ⊢ <;>
    rw [e] at hframe ⊢
  · exact ⟨ch, hself s rfl, ⟨fun _ => rfl, fun h => absurd (hr.symm.trans h) (by simp)⟩, hframe, by simp [hr],
      by simp [bindLog, hr], fun _ => rfl, fun h => absurd (hr.symm.trans h) (by simp)⟩
  · have hne : ch.run ≠ .created ∧ ch.run ≠ .running := by rcases hr with hr | hr <;> simp [hr]
    exact ⟨ch, hself s rfl, ⟨fun _ => rfl, fun h => absurd h hne.1⟩, hframe, by simp [hne.2],
      by simp [bindLog, hne.1], fun _ => rfl, fun h => absurd h hne.1⟩
  · exact ⟨{ ch with run := .running, startedAt := some s.env.now },
      fun d => State.chan_setChan (s.setEnv s.env.drawBind.2) (State.chan_bounds h) _ d, ⟨fun h => absurd hr h,
      fun _ => .inl rfl⟩, hframe, by simp, by simp [bindLog], fun h => absurd hr h, fun _ => ⟨rfl, by simp [hb]⟩⟩
  · exact ⟨{ ch with run := .failed },
      fun d => State.chan_setChan (s.setEnv s.env.drawBind.2) (State.chan_bounds h) _ d, ⟨fun h => absurd hr h,
      fun _ => .inr rfl⟩, hframe, by simp, by simp [bindLog, hr], fun h => absurd hr h, fun _ => ⟨rfl, by simp [hb]⟩⟩

theorem startCard_absent {s : State} {c : Nat} (h : s.chan c = none) : startCard c s = ([], s) := by
  unfold startCard
  rw [h]

/-- The start of a card leaves every other. -/
theorem startCard_other {s : State} {c : Nat} {d : Int} (h : d ≠ c) : (startCard c s).2.chan d = s.chan d := by
  cases hc : s.chan c with
  | none => rw [startCard_absent hc]
  | some ch =>
    obtain ⟨ch', hchan, -⟩ := startCard_spec hc
    rw [hchan, if_neg h]

theorem startCards_other {cs : List Nat} {s : State} {d : Int} (h : ∀ c ∈ cs, d ≠ (c : Int)) :
    (startCards cs s).2.chan d = s.chan d := by
  induction cs generalizing s with
  | nil => rfl
  | cons c cs ih =>
    rw [startCards, ih fun c' hc' => h c' (List.mem_cons_of_mem c hc')]
    exact startCard_other (h c List.mem_cons_self)

theorem startCards_frame (cs : List Nat) (s : State) : StartFrame s (startCards cs s).2 := by
  induction cs generalizing s with
  | nil => rfl
  | cons c cs ih =>
    refine StartFrame.trans ?_ (ih _)
    cases hc : s.chan c with
    | none => rw [startCard_absent hc]; rfl
    | some ch =>
      obtain ⟨ch', -, -, hframe, -⟩ := startCard_spec hc
      exact hframe

section
variable {c : Nat} {cs : List Nat} {s : State}

theorem cast_ne {c' : Nat} (hc : c ∉ cs) (h : c' ∈ cs) : (c' : Int) ≠ (c : Int) := by
  rintro e
  exact hc (Int.ofNat_inj.1 e ▸ h)

/-- The channel of a card after `startAll`: what its own start left. -/
theorem startCards_head (hc : c ∉ cs) : (startCards (c :: cs) s).2.chan c = (startCard c s).2.chan c :=
  startCards_other fun _ hc' => (cast_ne hc hc').symm

/-- The cards after the first find their channels as they were. -/
theorem startCards_tail {α : Type} (hc : c ∉ cs) (f : Nat → Option Channel → α) :
    ∀ c' ∈ cs, f c' ((startCard c s).2.chan c') = f c' (s.chan c') := fun c' hc' => by
  rw [startCard_other (cast_ne hc hc')]

end

/-- Is a channel running? -/
def runs (o : Option Channel) : Bool := o.any fun b => decide (b.run = .running)

/-- Was a channel never started? -/
def neverStarted (o : Option Channel) : Bool := o.any fun a => decide (a.run = .created)

/-- What `startAll` answers: for every card with a channel, whether it runs (R188). -/
theorem startCards_answer {cs : List Nat} (hnd : cs.Nodup) (s : State) : (startCards cs s).1 =
    (cs.filter fun c : Nat => (s.chan c).isSome).map fun c : Nat => (c, runs ((startCards cs s).2.chan c)) := by
  induction cs generalizing s with
  | nil => rfl
  | cons c cs ih =>
    obtain ⟨hc, hnd⟩ := List.nodup_cons.1 hnd
    have hfilter : (cs.filter fun c' : Nat => ((startCard c s).2.chan c').isSome) =
        cs.filter fun c' : Nat => (s.chan c').isSome :=
      List.filter_congr (startCards_tail hc fun _ o => o.isSome)
    have htail := ih hnd (startCard c s).2
    rw [hfilter] at htail
    rw [startCards, htail]
    cases hs : s.chan c with
    | none => simp [startCard_absent hs, hs]
    | some ch =>
      obtain ⟨ch', hchan, -, -, hone, -⟩ := startCard_spec hs
      have hhead : (startCards cs (startCard c s).2).2.chan c = some ch' := by
        rw [startCards_other fun _ hc' => (cast_ne hc hc').symm, hchan, if_pos rfl]
      simp [hone, hs, hhead, runs]

/-- Every channel is as its own start left it (R171). -/
theorem startCards_chan {cs : List Nat} (hnd : cs.Nodup) {s : State} {c : Nat} (hmem : c ∈ cs) {ch : Channel}
    (h : s.chan c = some ch) : ∃ ch', (startCards cs s).2.chan c = some ch' ∧ StartedAt s.env.now ch ch' := by
  induction cs generalizing s with
  | nil => cases hmem
  | cons c' cs ih =>
    obtain ⟨hc', hnd⟩ := List.nodup_cons.1 hnd
    rcases List.mem_cons.1 hmem with rfl | hmem
    · obtain ⟨ch', hchan, hstart, -⟩ := startCard_spec h
      exact ⟨ch', by rw [startCards_head hc', hchan, if_pos rfl], hstart⟩
    · have hnow : (startCard c' s).2.env.now = s.env.now := by
        have := congrArg (fun t => t.env.now) (startCards_frame [c'] s)
        exact this
      obtain ⟨ch', hchan, hstart⟩ := ih hnd hmem ((startCard_other (cast_ne hc' hmem)).trans h)
      exact ⟨ch', hchan, hnow ▸ hstart⟩

theorem startCards_absent {cs : List Nat} {s : State} {d : Int} (h : s.chan d = none) :
    (startCards cs s).2.chan d = none := by
  induction cs generalizing s with
  | nil => exact h
  | cons c cs ih =>
    refine ih ?_
    by_cases hd : d = c
    · subst hd
      rw [startCard_absent h]
      exact h
    · rw [startCard_other hd, h]

/-- Each failed bind is logged, in the order of the cards (R171, R188). -/
theorem startCards_log {cs : List Nat} (hnd : cs.Nodup) (s : State) : (startCards cs s).2.log =
    (cs.filterMap fun c : Nat => bindLog (s.chan c) ((startCards cs s).2.chan c)).reverse ++ s.log := by
  induction cs generalizing s with
  | nil => rfl
  | cons c cs ih =>
    obtain ⟨hc, hnd⟩ := List.nodup_cons.1 hnd
    have htail := ih hnd (startCard c s).2
    have hmap : (cs.filterMap fun c' : Nat => bindLog ((startCard c s).2.chan c') ((startCards (c :: cs) s).2.chan c')) =
        cs.filterMap fun c' : Nat => bindLog (s.chan c') ((startCards (c :: cs) s).2.chan c') :=
      List.filterMap_congr (startCards_tail hc fun c' o => bindLog o ((startCards (c :: cs) s).2.chan c'))
    have hlog : (startCard c s).2.log = (bindLog (s.chan c) ((startCard c s).2.chan c)).toList ++ s.log := by
      cases hs : s.chan c with
      | none => rw [startCard_absent hs]; rfl
      | some ch =>
        obtain ⟨ch', hchan, -, -, -, hlog, -⟩ := startCard_spec hs
        rw [hlog, hchan, if_pos rfl]
    change (startCards (c :: cs) s).2.log = _ at htail
    rw [htail]
    change (List.filterMap (fun c' : Nat => bindLog ((startCard c s).2.chan c') ((startCards (c :: cs) s).2.chan c'))
      cs).reverse ++ _ = _
    rw [hmap, hlog, List.filterMap_cons, startCards_head hc]
    cases bindLog (s.chan c) ((startCard c s).2.chan c) <;> simp

/-- The binds of the channels never started are drawn in the order of the cards (R171, R188). -/
theorem startCards_binds {cs : List Nat} (hnd : cs.Nodup) (s : State) (hlen : cs.length ≤ s.env.binds.length) :
    let created := cs.filter fun c : Nat => neverStarted (s.chan c)
    (created.map fun c : Nat => runs ((startCards cs s).2.chan c)) = s.env.binds.take created.length ∧
      (startCards cs s).2.env.binds = s.env.binds.drop created.length ∧
      (startCards cs s).2.env.draws = s.env.draws := by
  induction cs generalizing s with
  | nil => exact ⟨rfl, rfl, rfl⟩
  | cons c cs ih =>
    obtain ⟨hc, hnd⟩ := List.nodup_cons.1 hnd
    have hfilter : (cs.filter fun c' : Nat => neverStarted ((startCard c s).2.chan c')) =
        cs.filter fun c' : Nat => neverStarted (s.chan c') :=
      List.filter_congr (startCards_tail hc fun _ o => neverStarted o)
    have hshort : cs.length ≤ s.env.binds.length := le_trans (Nat.le_succ _) hlen
    have hhead := startCards_head (s := s) hc
    have hskip (h : neverStarted (s.chan c) = false) (he : (startCard c s).2.env = s.env) :
        let created := (c :: cs).filter fun d : Nat => neverStarted (s.chan d)
        (created.map fun d : Nat => runs ((startCards (c :: cs) s).2.chan d)) = s.env.binds.take created.length ∧
          (startCards (c :: cs) s).2.env.binds = s.env.binds.drop created.length ∧
          (startCards (c :: cs) s).2.env.draws = s.env.draws := by
      have htail := ih hnd (startCard c s).2 (he ▸ hshort)
      rw [hfilter, he] at htail
      rw [List.filter_cons_of_neg (p := fun d : Nat => neverStarted (s.chan d)) (by simp [h])]
      exact htail
    cases hs : s.chan c with
    | none => exact hskip (by rw [hs]; rfl) (by rw [startCard_absent hs])
    | some ch =>
      obtain ⟨ch', hchan, -, -, -, -, hold, hnew⟩ := startCard_spec hs
      by_cases hr : ch.run = .created
      · obtain ⟨henv, hbind⟩ := hnew hr
        cases hb : s.env.binds with
        | nil => simp [hb] at hlen
        | cons b bs =>
          have hdraw : s.env.drawBind = (b, { s.env with binds := bs }) := by
            unfold Env.drawBind
            rw [hb]
          rw [hdraw] at henv hbind
          have hlen' : cs.length ≤ (startCard c s).2.env.binds.length := by
            rw [henv]
            simpa [hb] using hlen
          obtain ⟨hmap, hbinds, hdraws⟩ := ih hnd (startCard c s).2 hlen'
          rw [hfilter, henv] at hmap hbinds
          rw [henv] at hdraws
          have hpos : neverStarted (s.chan c) = true := by rw [hs]; simp [neverStarted, hr]
          rw [List.filter_cons_of_pos (p := fun d : Nat => neverStarted (s.chan d)) hpos]
          refine ⟨?_, hbinds, hdraws⟩
          rw [List.map_cons, List.length_cons, List.take_succ_cons, hhead, hchan, if_pos rfl]
          exact congrArg₂ List.cons hbind hmap
      · exact hskip (by rw [hs]; simp [neverStarted, hr]) (hold hr)

/-! ## What stopAll leaves (R172, R189) -/

/-- A STOPALL in progress stops its cards, one after another. -/
theorem takeCards_stopAll (n next : Nat) (s : State) :
    ((⟨.stopAll, next, []⟩ : FleetOp).takeCards n s).1.response = .ok ∧
    ((⟨.stopAll, next, []⟩ : FleetOp).takeCards n s).2 =
      { s with fleet := ((⟨.stopAll, next, []⟩ : FleetOp).takeCards n s).2.fleet } ∧
    ∀ d : Int, ((⟨.stopAll, next, []⟩ : FleetOp).takeCards n s).2.chan d =
      if (next : Int) ≤ d ∧ d < next + n then (s.chan d).map Channel.stopped else s.chan d := by
  induction n generalizing next s with
  | zero =>
    refine ⟨rfl, rfl, fun d => ?_⟩
    rw [if_neg (by omega)]
    rfl
  | succ n ih =>
    have htake : (⟨.stopAll, next, []⟩ : FleetOp).takeCard s = (⟨.stopAll, next + 1, []⟩, (fleetStop next s).2) := rfl
    have hstop : (fleetStop next s).2 = { s with fleet := (fleetStop next s).2.fleet } := by
      unfold fleetStop
      split <;> rfl
    obtain ⟨hresp, hframe, hchan⟩ := ih (next + 1) (fleetStop next s).2
    rw [FleetOp.takeCards, htake]
    refine ⟨hresp, ?_, fun d => ?_⟩
    · rw [hframe, hstop]
    · rw [hchan, fleetStop_chan]
      by_cases hd : d = next
      · subst hd
        rw [if_neg (by omega), if_pos rfl, if_pos (by omega)]
      · rw [if_neg hd]
        refine if_congr ?_ rfl rfl
        omega

/-! ## The obligation -/

/-- The seven cards. -/
def allCards : List Nat := [1, 2, 3, 4, 5, 6, 7]

theorem allCards_nodup : allCards.Nodup := by decide

theorem mem_allCards {s : State} {c : Nat} {ch : Channel} (h : s.chan c = some ch) : c ∈ allCards := by
  obtain ⟨h1, h7⟩ := State.chan_bounds h
  simp only [allCards, List.mem_cons, List.not_mem_nil, or_false]
  omega

/-- A caller's turn, as a step of the machine (R188, R189). -/
theorem step_caller {s : State} {k : Nat} {rest : List Input} (h : s.env.agenda = .caller k :: rest) :
    step s = .next (callerStep k (s.setAgenda rest)) := by
  simp only [step, fetchInput, h, runInput]
  rfl

theorem callerStep_op {v : State} {k : Nat} {op : FleetOp} (hop : v.fleetOps[k]? = some op) :
    callerStep k v = { v with
      fleet := (op.request v).2.fleet
      env := (op.request v).2.env
      log := (op.request v).2.log
      fleetOps := if op.next < 7
        then v.fleetOps.set k { op with next := op.next + 1, started := op.started ++ op.answered (op.request v).1 }
        else v.fleetOps.eraseIdx k
      responses := if op.next < 7 then v.responses else
        (match op.kind with
          | .startAll => .okValue (.started (op.started ++ op.answered (op.request v).1))
          | .stopAll => .ok) :: v.responses } := by
  have hframe := op.request_frame v
  rcases callerStep_cases k v with ⟨hnone, -⟩ | ⟨op', hop', ⟨h7, e⟩ | ⟨h7, e⟩⟩
  · rw [hop] at hnone
    cases hnone
  · obtain rfl := Option.some.inj (hop.symm.trans hop')
    rw [e, op.takeCard_eq, if_pos h7, if_pos h7]
    dsimp only
    rw [hframe]
    rfl
  · obtain rfl := Option.some.inj (hop.symm.trans hop')
    have hnot : ¬ op.next < 7 := by omega
    rw [e, op.takeCard_eq, if_neg hnot, if_neg hnot]
    dsimp only
    rw [hframe]
    unfold FleetOp.response
    cases op.kind <;> rfl

/-- Settles O23: a turn takes one card, and the seven turns of an operation, with no other between, take the cards in
ascending order. -/
theorem startAllAndStopAll : Obligations.StartAllAndStopAll := by
  unfold Obligations.StartAllAndStopAll
  intro s
  refine ⟨rfl, rfl, fun k rest hagenda => ?_, fun rest hagenda => ?_, fun rest hagenda => ?_⟩
  · intro v
    have hstep : step s = .next (callerStep k v) := step_caller hagenda
    refine ⟨fun hnone => ?_, fun op hop => ?_⟩
    · have hcall : callerStep k v = v := by
        have hnone' : v.fleetOps[k]? = none := hnone
        unfold callerStep
        rw [hnone']
      rw [hstep, hcall]
    · have hcall := callerStep_op (v := v) hop
      refine ⟨callerStep k v, (op.request v).1, hstep, ?_, ?_⟩
      · refine (exec_request op v).trans ?_
        rw [op.request_frame v, hcall]
        rfl
      · rw [hcall]
        rfl
  · have hrun := stepN_startstop (i := .startall) (kind := .startAll) rfl rfl (fun _ => rfl) hagenda
    rw [takeCards_startAll] at hrun
    have hframe : StartFrame s (startCards allCards s).2 := startCards_frame _ s
    have hanswer := startCards_answer allCards_nodup s
    have hlog := startCards_log allCards_nodup s
    have habsent (c : Int) (hc : s.chan c = none) : (startCards allCards s).2.chan c = none := startCards_absent hc
    have hchan (c : Nat) (ch : Channel) (hc : s.chan c = some ch) :=
      startCards_chan allCards_nodup (mem_allCards hc) hc
    have hbinds := startCards_binds allCards_nodup s
    simp only [List.nil_append, FleetOp.response] at hrun
    rw [show List.range' 1 7 = allCards from rfl] at hrun
    generalize startCards allCards s = q at hrun hframe hanswer hlog habsent hchan hbinds
    have hfst : q.1.map Prod.fst = allCards.filter fun c : Nat => (s.chan c).isSome := by
      rw [hanswer, List.map_map]
      exact List.map_id _
    refine ⟨_, q.1, hrun, ?_, hfst, habsent, fun c ch hc => ?_, hlog, hbinds, fun hall hlen => ?_⟩
    · rw [hframe]
      rfl
    · obtain ⟨ch', hc', hold, hnew⟩ := hchan c ch hc
      refine ⟨ch', hc', ?_, hold, hnew⟩
      rw [hanswer]
      refine List.mem_map.2 ⟨c, List.mem_filter.2 ⟨mem_allCards hc, by rw [hc]; rfl⟩, ?_⟩
      rw [hc']
      rfl
    · have hsame : (allCards.filter fun c : Nat => (s.chan c).isSome) =
          allCards.filter fun c : Nat => neverStarted (s.chan c) := by
        refine List.filter_congr fun c _ => ?_
        cases hc : s.chan c with
        | none => rfl
        | some ch => simp [neverStarted, hall c ch hc]
      rw [hsame] at hanswer
      obtain ⟨hmap, -, -⟩ := hbinds hlen
      rw [hanswer, List.map_map, List.length_map]
      exact hmap
  · have hrun := stepN_startstop (i := .stopall) (kind := .stopAll) rfl rfl (fun _ => rfl) hagenda
    obtain ⟨hresp, hframe, hchan⟩ := takeCards_stopAll 7 1 s
    rw [hresp] at hrun
    generalize ((⟨.stopAll, 1, []⟩ : FleetOp).takeCards 7 s).2 = u at hrun hframe hchan
    have ht (c : Int) : (((u.setFleetOps s.fleetOps).setAgenda rest).respond .ok).chan c = u.chan c := rfl
    refine ⟨_, hrun, ?_, fun c hc => ?_, fun c ch hc => ?_⟩
    · rw [hframe]
      rfl
    · rw [ht, hchan, hc]
      split <;> rfl
    · have hb := State.chan_bounds hc
      rw [ht, hchan, if_pos (by omega), hc, Option.map_some, Channel.stopped_eq]

end Sys2Proof.Machine

/-!
PROOFS about whole runs of a check: the states a run goes through when the facade answers well, and PowerTest of a
subject without a stimulus (R220, R223, R231, R236).
-/

namespace Sys2Proof.Machine

/-! ## The states of a run -/

/-- The state after a reading that the facade answers (R223). -/
def State.hasRead (s : State) (q : FacadePin) (v : Volts) (vs : List (Option Volts)) : State :=
  { s with env := { s.env with reads := vs }, facade := .ar s.env.now q (some v) :: s.facade }

/-- The clock has advanced to `t` (R13). -/
def State.atTime (s : State) (t : Time) : State := s.setEnv { s.env with now := max s.env.now t }

/-- The diagnostics so far. -/
def State.withLog (s : State) (l : List Diagnostic) : State := { s with log := l }

/-- After the next `a` writes, `n` that succeed. -/
def State.writesFrom (s : State) (a n : Nat) : Prop :=
  s.facadeClosed = false ∧ (s.env.writes.drop a).take n = List.replicate n true

theorem State.writesSucceed_iff (s : State) (n : Nat) : s.writesSucceed n ↔ s.writesFrom 0 n := .rfl

theorem State.writesSucceed.from {s : State} {m : Nat} (h : s.writesSucceed m) (a n : Nat) (ha : a + n ≤ m) :
    s.writesFrom a n := by
  obtain ⟨hopen, hw⟩ := h
  have hpart := congrArg (fun l => (l.drop a).take n) hw
  simp only [List.drop_take, List.take_take, List.drop_replicate, List.take_replicate] at hpart
  rw [min_eq_left (by omega)] at hpart
  exact ⟨hopen, hpart⟩

/-- A check requested on its own is under way in `s`, at `pos` with the values `w`, and `l` is what comes next. -/
def State.inCheck (s : State) (l : List Input) (pos : SeqPos) (w : Work) : State :=
  { s with env := { s.env with agenda := l }, busy := true, pos := pos, work := w }

/-- A check requested on its own has returned (R220). -/
def State.returned (s : State) (l : List Input) (subj : List Subject) (r : CheckResult) : State :=
  { s with
    env := { s.env with agenda := l }
    subj := subj
    busy := false
    pos := .idle
    work := .idle
    responses := .okValue (.check r) :: s.responses }

section
variable (s : State) (b : Bool) (ps : List FacadePin) (q : FacadePin) (v : Volts) (vs : List (Option Volts)) (t : Time)
  (l : List Diagnostic)

@[simp] theorem State.wrote_fleet : (s.wrote b ps).fleet = s.fleet := rfl
@[simp] theorem State.wrote_facadeClosed : (s.wrote b ps).facadeClosed = s.facadeClosed := rfl
@[simp] theorem State.wrote_subj : (s.wrote b ps).subj = s.subj := rfl
@[simp] theorem State.wrote_stopRequested : (s.wrote b ps).stopRequested = s.stopRequested := rfl
@[simp] theorem State.wrote_responses : (s.wrote b ps).responses = s.responses := rfl
@[simp] theorem State.wrote_log : (s.wrote b ps).log = s.log := rfl
@[simp] theorem State.wrote_now : (s.wrote b ps).env.now = s.env.now := rfl
@[simp] theorem State.wrote_reads : (s.wrote b ps).env.reads = s.env.reads := rfl
@[simp] theorem State.wrote_facade : (s.wrote b ps).facade = writeCalls s.env.now b ps ++ s.facade := rfl
@[simp] theorem State.wrote_writesFrom (a n : Nat) :
    (s.wrote b ps).writesFrom a n ↔ s.writesFrom (ps.length + a) n := by
  simp [State.writesFrom, State.wrote, List.drop_drop]
@[simp] theorem State.wrote_chan (c : Int) : (s.wrote b ps).chan c = s.chan c := rfl

@[simp] theorem State.hasRead_cfg : (s.hasRead q v vs).cfg = s.cfg := rfl
@[simp] theorem State.hasRead_fleet : (s.hasRead q v vs).fleet = s.fleet := rfl
@[simp] theorem State.hasRead_facadeClosed : (s.hasRead q v vs).facadeClosed = s.facadeClosed := rfl
@[simp] theorem State.hasRead_subj : (s.hasRead q v vs).subj = s.subj := rfl
@[simp] theorem State.hasRead_stopRequested : (s.hasRead q v vs).stopRequested = s.stopRequested := rfl
@[simp] theorem State.hasRead_responses : (s.hasRead q v vs).responses = s.responses := rfl
@[simp] theorem State.hasRead_log : (s.hasRead q v vs).log = s.log := rfl
@[simp] theorem State.hasRead_now : (s.hasRead q v vs).env.now = s.env.now := rfl
@[simp] theorem State.hasRead_reads : (s.hasRead q v vs).env.reads = vs := rfl
@[simp] theorem State.hasRead_facade :
    (s.hasRead q v vs).facade = .ar s.env.now q (some v) :: s.facade := rfl
@[simp] theorem State.hasRead_fp (q' : FacadePin) : (s.hasRead q v vs).fp q' = s.fp q' := rfl

@[simp] theorem State.hasRead_chan (c : Int) : (s.hasRead q v vs).chan c = s.chan c := rfl
@[simp] theorem State.hasRead_writesFrom (a n : Nat) :
    (s.hasRead q v vs).writesFrom a n ↔ s.writesFrom a n := .rfl

@[simp] theorem State.atTime_cfg : (s.atTime t).cfg = s.cfg := rfl
@[simp] theorem State.atTime_fleet : (s.atTime t).fleet = s.fleet := rfl
@[simp] theorem State.atTime_facadeClosed : (s.atTime t).facadeClosed = s.facadeClosed := rfl
@[simp] theorem State.atTime_subj : (s.atTime t).subj = s.subj := rfl
@[simp] theorem State.atTime_stopRequested : (s.atTime t).stopRequested = s.stopRequested := rfl
@[simp] theorem State.atTime_responses : (s.atTime t).responses = s.responses := rfl
@[simp] theorem State.atTime_log : (s.atTime t).log = s.log := rfl
@[simp] theorem State.atTime_now : (s.atTime t).env.now = max s.env.now t := rfl
@[simp] theorem State.atTime_reads : (s.atTime t).env.reads = s.env.reads := rfl
@[simp] theorem State.atTime_facade : (s.atTime t).facade = s.facade := rfl
@[simp] theorem State.atTime_fp (q' : FacadePin) : (s.atTime t).fp q' = s.fp q' := rfl
@[simp] theorem State.atTime_chan (c : Int) : (s.atTime t).chan c = s.chan c := rfl

@[simp] theorem State.atTime_writesFrom (a n : Nat) : (s.atTime t).writesFrom a n ↔ s.writesFrom a n := .rfl

@[simp] theorem State.withLog_cfg : (s.withLog l).cfg = s.cfg := rfl
@[simp] theorem State.withLog_fleet : (s.withLog l).fleet = s.fleet := rfl
@[simp] theorem State.withLog_subj : (s.withLog l).subj = s.subj := rfl
@[simp] theorem State.withLog_stopRequested : (s.withLog l).stopRequested = s.stopRequested := rfl
@[simp] theorem State.withLog_responses : (s.withLog l).responses = s.responses := rfl
@[simp] theorem State.withLog_log : (s.withLog l).log = l := rfl
@[simp] theorem State.withLog_now : (s.withLog l).env.now = s.env.now := rfl
@[simp] theorem State.withLog_reads : (s.withLog l).env.reads = s.env.reads := rfl
@[simp] theorem State.withLog_facade : (s.withLog l).facade = s.facade := rfl
@[simp] theorem State.withLog_fp (q' : FacadePin) : (s.withLog l).fp q' = s.fp q' := rfl
@[simp] theorem State.withLog_writesFrom (a n : Nat) : (s.withLog l).writesFrom a n ↔ s.writesFrom a n := .rfl

end

section
variable (s : State) (l : List Input) (subj : List Subject) (r : CheckResult)

@[simp] theorem State.returned_cfg : (s.returned l subj r).cfg = s.cfg := rfl
@[simp] theorem State.returned_fleet : (s.returned l subj r).fleet = s.fleet := rfl
@[simp] theorem State.returned_subj : (s.returned l subj r).subj = subj := rfl
@[simp] theorem State.returned_stopRequested : (s.returned l subj r).stopRequested = s.stopRequested := rfl
@[simp] theorem State.returned_busy : (s.returned l subj r).busy = false := rfl
@[simp] theorem State.returned_pos : (s.returned l subj r).pos = .idle := rfl
@[simp] theorem State.returned_work : (s.returned l subj r).work = .idle := rfl
@[simp] theorem State.returned_responses :
    (s.returned l subj r).responses = .okValue (.check r) :: s.responses := rfl
@[simp] theorem State.returned_log : (s.returned l subj r).log = s.log := rfl
@[simp] theorem State.returned_facade : (s.returned l subj r).facade = s.facade := rfl
@[simp] theorem State.returned_reads : (s.returned l subj r).env.reads = s.env.reads := rfl
@[simp] theorem State.returned_agenda : (s.returned l subj r).env.agenda = l := rfl
@[simp] theorem State.returned_fp (q : FacadePin) : (s.returned l subj r).fp q = s.fp q := rfl
@[simp] theorem State.returned_line (i : Fin 16) : (s.returned l subj r).line i = s.line i := rfl
@[simp] theorem State.returned_relay (k : Nat) : (s.returned l subj r).relay k = s.relay k := rfl
@[simp] theorem State.returned_pullup (k : Nat) : (s.returned l subj r).pullup k = s.pullup k := rfl
@[simp] theorem State.returned_sharedPullup (ka kb : Nat) :
    (s.returned l subj r).sharedPullup ka kb = s.sharedPullup ka kb := rfl
@[simp] theorem State.returned_chan (c : Int) : (s.returned l subj r).chan c = s.chan c := rfl

end

section
variable {s b v : State} {l : List Input} {m n : Nat} {pos : SeqPos} {w : Work}

theorem analogRead_hasRead {x : Volts} {vs : List (Option Volts)} (hc : s.facadeClosed = false)
    (h : s.env.reads = some x :: vs) (q : FacadePin) : analogRead q s = (some x, s.hasRead q x vs) :=
  analogRead_listed hc h q

/-- The request begins its check (R220). -/
theorem stepN_request {i : Instr} (ha : s.env.agenda = .command (encode i) :: l)
    (hi : i.wf = true) (hevent : i.isEvent = false)
    (he : ∀ t : State, t.busy = false → t.subj = s.subj → t.cfg = s.cfg → exec i t = .next (t.beginCheck pos w))
    (hb : s.busy = false) : stepN (m + 1) s = stepN m (s.inCheck l pos w) :=
  stepN_command ha (decodeOfEncode i hi) hevent (he _ hb rfl rfl)

/-- The worker's turn in a run. -/
theorem stepN_turn (hw : w.wake = none) (hv : engineStep (b.inCheck l pos w) = v) :
    stepN (m + 1) (b.inCheck (.worker :: l) pos w) = stepN m v := by
  rw [stepN_worker rfl, ← hv]
  exact congrArg (stepN m) (workerStep_awake (s := b.inCheck l pos w) rfl hw)

/-- The worker's turn once its wait is over (R13). -/
theorem stepN_wakes {t : Time} (hw : w.wake = none) (ht : t ≤ b.env.now)
    (hv : engineStep (b.inCheck l pos w) = v) :
    stepN (m + 1) (b.inCheck (.worker :: l) pos { w with wake := some t }) = stepN m v := by
  have hr : (b.inCheck l pos { w with wake := some t }).ready := ⟨rfl, fun t' h => Option.some.inj h ▸ ht⟩
  have hwake : (b.inCheck l pos { w with wake := some t }).awake = b.inCheck l pos w := by
    change b.inCheck l pos { w with wake := none } = _
    rw [← hw]
  rw [stepN_worker rfl, ← hv, ← hwake]
  exact congrArg (stepN m) (workerStep_ready hr)

/-- The clock's turn in a run. -/
theorem stepN_tick {t : Time} : stepN (m + 1) (b.inCheck (.clock t :: l) pos w) =
    stepN m ((b.atTime t).inCheck l pos w) := stepN_clock rfl

end

/-! ## The steps of PowerTest without a stimulus -/

section
variable {u : State} {sub : Subject} {x : Volts}

theorem powerP1_of_cleared (hw : u.writesSucceed 16) : powerP1 u = (u.wrote false u.cfg.linePin.toList).goto 2 := by
  simp only [powerP1, clearAllLines_good hw]

theorem powerP2_of_routed {pin : Nat} {p : Pattern} (hpin : sub.input.pin = pin) (h1 : 1 ≤ pin)
    (ht : tableEntry u.cfg pin .A = some p) (hw : u.writesSucceed (patternLines p).length) :
    powerP2 sub u = (u.wrote true (linePins u.cfg p)).goto 3 := by
  simp only [powerP2, hpin, routePin_good h1 ht hw]

theorem powerP4_of_reading {vs : List (Option Volts)} (hc : u.facadeClosed = false)
    (hv : u.env.reads = some x :: vs) : powerP4 sub u =
      ((u.hasRead (measPin u.cfg (pairOfPin u.cfg sub.input.pin)) x vs).measured (u.cfg.vScale * x)).goto 5 := by
  simp only [powerP4, measure_eq, analogRead_hasRead hc hv, Option.map_some]

/-- A string that is not special is logged (R236). -/
theorem powerP5_of_none (h : namesNoStimulus sub.input.powerInput) : powerP5 sub u =
    if sub.input.powerInput = [] ∨ sub.input.powerInput = ['n', 'o', 'n', 'e'] then
      (u.setWork { u.work with spec := none }).goto 6
    else ((u.setWork { u.work with spec := none }).goto 6).logDirective := by
  obtain ⟨-, -, hnone, -, -⟩ := directiveGrammars
  simp only [powerP5, hnone _ h, isNoStimulusText]
  by_cases hspecial : sub.input.powerInput = [] ∨ sub.input.powerInput = ['n', 'o', 'n', 'e']
  · simp [hspecial]
  · simp [hspecial]

theorem powerP6_of_measured (hd : u.work.spec = none) (hm : u.work.measured = some x) : powerP6 sub u =
    (u.judge (decide (absRat (x - sub.input.powerExpected) ≤ u.cfg.tol))).goto 15 := by
  simp only [powerP6, hd, hm]
  rfl

theorem powerP15_of_cleared (hw : u.writesSucceed 16) : powerP15 u = (u.wrote false u.cfg.linePin.toList).goto 16 := by
  simp only [powerP15, restoreLines_good hw]

end

section
variable {b : State} {c : Cfg} {sub : Subject} {k : Nat} {l : List Input} {w : Work} {x : Volts}

/-- The turn of PowerTest of subject `k` at step `n`. -/
theorem engineStep_power {n : Nat} (hs : b.subj[k]? = some sub) (h0 : n ≠ 0) :
    engineStep (b.inCheck l ⟨.power, k, n⟩ w) = powerStep sub (b.inCheck l ⟨.power, k, n⟩ w) :=
  ((engineStep_subject (s := b.inCheck l ⟨.power, k, n⟩ w) hs).1 rfl).trans (if_neg h0)

theorem powerP1_run (hs : b.subj[k]? = some sub) (hc : b.cfg = c) (hw : b.writesSucceed 16) :
    engineStep (b.inCheck l ⟨.power, k, 1⟩ .idle) =
      (b.wrote false c.linePin.toList).inCheck l ⟨.power, k, 2⟩ .idle := by
  subst hc
  rw [engineStep_power hs (by decide)]
  exact powerP1_of_cleared (u := b.inCheck l ⟨.power, k, 1⟩ .idle) hw

theorem powerP2_run {pin : Nat} {p : Pattern} (hs : b.subj[k]? = some sub) (hc : b.cfg = c) (hpin : sub.input.pin = pin)
    (h1 : 1 ≤ pin) (ht : tableEntry c pin .A = some p) (hw : b.writesSucceed (patternLines p).length) :
    engineStep (b.inCheck l ⟨.power, k, 2⟩ .idle) =
      (b.wrote true (linePins c p)).inCheck l ⟨.power, k, 3⟩ .idle := by
  subst hc
  rw [engineStep_power hs (by decide)]
  exact powerP2_of_routed (u := b.inCheck l ⟨.power, k, 2⟩ .idle) hpin h1 ht hw

theorem powerP3_run (hs : b.subj[k]? = some sub) : engineStep (b.inCheck l ⟨.power, k, 3⟩ .idle) =
    b.inCheck l ⟨.power, k, 4⟩ { Work.idle with wake := some (b.env.now + b.cfg.settle) } := by
  rw [engineStep_power hs (by decide)]
  rfl

theorem powerP4_run {pin : Nat} {vs : List (Option Volts)} (hs : b.subj[k]? = some sub) (hc : b.cfg = c)
    (hpin : sub.input.pin = pin) (hopen : b.facadeClosed = false) (hv : b.env.reads = some x :: vs) :
    engineStep (b.inCheck l ⟨.power, k, 4⟩ .idle) =
      (b.hasRead (measPin c (pairOfPin c pin)) x vs).inCheck l ⟨.power, k, 5⟩
        { Work.idle with measured := some (c.vScale * x) } := by
  subst hc
  rw [engineStep_power hs (by decide), ← hpin]
  exact powerP4_of_reading (u := b.inCheck l ⟨.power, k, 4⟩ .idle) hopen hv

/-- The diagnostics after P5 of a subject without a stimulus (R236). -/
def powerLog (k : Nat) (sub : Subject) (log : List Diagnostic) : List Diagnostic :=
  if sub.input.powerInput = [] ∨ sub.input.powerInput = ['n', 'o', 'n', 'e'] then log
  else .unparsedDirective .power k :: log

theorem powerP5_run (hs : b.subj[k]? = some sub) (h : namesNoStimulus sub.input.powerInput) :
    engineStep (b.inCheck l ⟨.power, k, 5⟩ { Work.idle with measured := some x }) =
      (b.withLog (powerLog k sub b.log)).inCheck l ⟨.power, k, 6⟩ { Work.idle with measured := some x } := by
  rw [engineStep_power hs (by decide)]
  refine (powerP5_of_none (u := b.inCheck l ⟨.power, k, 5⟩ { Work.idle with measured := some x }) h).trans ?_
  unfold powerLog
  split <;> rfl

/-- The values of the check once its verdict is given (R228). -/
def Work.judged (w : Work) (good : Bool) : Work := { w with pass := good, reason := if good then .ok else .mismatch }

theorem powerP6_run (hs : b.subj[k]? = some sub) (hc : b.cfg = c) :
    engineStep (b.inCheck l ⟨.power, k, 6⟩ { Work.idle with measured := some x }) =
      b.inCheck l ⟨.power, k, 15⟩ (Work.judged { Work.idle with measured := some x }
        (decide (absRat (x - sub.input.powerExpected) ≤ c.tol))) := by
  subst hc
  rw [engineStep_power hs (by decide)]
  exact powerP6_of_measured (u := b.inCheck l ⟨.power, k, 6⟩ { Work.idle with measured := some x }) rfl rfl

theorem powerP15_run {good : Bool} (hs : b.subj[k]? = some sub) (hc : b.cfg = c) (hw : b.writesSucceed 16) :
    engineStep (b.inCheck l ⟨.power, k, 15⟩ (Work.judged { Work.idle with measured := some x } good)) =
      (b.wrote false c.linePin.toList).inCheck l ⟨.power, k, 16⟩
        (Work.judged { Work.idle with measured := some x } good) := by
  subst hc
  rw [engineStep_power hs (by decide)]
  exact powerP15_of_cleared (u := b.inCheck l ⟨.power, k, 15⟩ _) hw

theorem powerP16_run {good : Bool} (hs : b.subj[k]? = some sub) :
    engineStep (b.inCheck l ⟨.power, k, 16⟩ (Work.judged { Work.idle with measured := some x } good)) =
      b.returned l (b.subj.set k { sub with powerMeasured := some x, powerResult := if good then .pass else .fail })
        { measured := .volts x, pass := good, reason := if good then .ok else .mismatch } := by
  rw [engineStep_power hs (by decide)]
  exact powerP16_alone (u := b.inCheck l ⟨.power, k, 16⟩ _) rfl

end

/-- What the control lines hold after a cleanup (R229). -/
theorem State.wrote_line {s : State} {c : Cfg} (h : s.cfg = c) (i : Fin 16) :
    (s.wrote false c.linePin.toList).line i = some false := by
  subst h
  rw [State.line, State.wrote_fp]
  exact if_pos (line_mem_linePin _ i)

theorem mem_linePin_of_mem_linePins {c : Cfg} {p : Pattern} {q : FacadePin} (h : q ∈ linePins c p) :
    q ∈ c.linePin.toList := by
  obtain ⟨i, -, rfl⟩ := List.mem_map.1 h
  exact line_mem_linePin c i

/-- Settles O36. -/
theorem powerTestWithoutStimulus : Obligations.PowerTestWithoutStimulus := by
  unfold Obligations.PowerTestWithoutStimulus
  intro s k pin sub p v vs t0 rest hb hk hs hpin h1 htab hno hw hreads ht0 hagenda m good later
  have hwf : (Instr.pwr k).wf = true := by simpa [Instr.wf, fitsA] using hk
  have hsubj {b : State} (h : b.subj = s.subj) : b.subj[k]? = some sub := h ▸ hs
  have hcleared := hw.from 0 16 (by omega)
  have hrouted := hw.from 16 (patternLines p).length (by omega)
  have hrestored := hw.from (16 + (patternLines p).length) 16 le_rfl
  have hrun := calc
    stepN 10 s = stepN 9 (s.inCheck (List.replicate 3 .worker ++ .clock t0 :: (List.replicate 5 .worker ++ rest))
      ⟨.power, k, 1⟩ .idle) := stepN_request hagenda hwf rfl (fun t hb' ht _ => congrArg Host.Outcome.next
        (requestCheck_eligible (p := .power) hb' (hsubj ht) rfl)) hb
    _ = stepN 8 _ := stepN_turn rfl (powerP1_run hs rfl hcleared)
    _ = stepN 7 _ := stepN_turn rfl (powerP2_run (c := s.cfg) (hsubj (by simp)) (by simp) hpin h1 htab
      (by simpa [State.writesSucceed_iff] using hrouted))
    _ = stepN 6 _ := stepN_turn rfl (powerP3_run (hsubj (by simp)))
    _ = stepN 5 _ := stepN_tick
    _ = stepN 4 _ := stepN_wakes rfl (by simpa using .inr ht0)
      (powerP4_run (c := s.cfg) (hsubj (by simp)) (by simp) hpin (by simpa using hw.1) (by simpa using hreads))
    _ = stepN 3 _ := stepN_turn rfl (powerP5_run (hsubj (by simp)) hno)
    _ = stepN 2 _ := stepN_turn rfl (powerP6_run (c := s.cfg) (hsubj (by simp)) (by simp))
    _ = stepN 1 _ := stepN_turn rfl (powerP15_run (c := s.cfg) (hsubj (by simp)) (by simp)
      (by simpa [State.writesSucceed_iff, linePins_length] using hrestored))
    _ = stepN 0 _ := stepN_turn rfl (powerP16_run (hsubj (by simp)))
  refine ⟨_, hrun, by simp [m, good], by simp [m, good], fun i => ?_, fun q hq => ?_, by simp [later],
    by simp [powerLog], rfl, rfl, rfl, by simp, by simp, by simp, rfl⟩
  · rw [State.returned_line]
    exact State.wrote_line (by simp) i
  · have hroute : q ∉ linePins s.cfg p := fun h => hq (mem_linePin_of_mem_linePins h)
    simp only [State.returned_fp, State.wrote_fp, State.withLog_fp, State.hasRead_fp, State.atTime_fp, if_neg hq,
      if_neg hroute]

end Sys2Proof.Machine

/-!
PROOFS about PullUpTest with `G`, run from the request to the response (R114, R226, R240, R241).
-/

namespace Sys2Proof.Machine

/-! ## The steps of PullUpTest with `G` -/

section
variable {u : State} {sub : Subject} {k : Nat} {x : Volts} {vs : List (Option Volts)}

theorem pullUpU1_of_routed {pin : Nat} {p : Pattern} (hpin : sub.input.pin = pin) (h1 : 1 ≤ pin)
    (ht : tableEntry u.cfg pin .A = some p) (hw : u.writesSucceed (16 + (patternLines p).length)) :
    pullUpU1 sub u =
      (((u.wrote false u.cfg.linePin.toList).wrote true (linePins u.cfg p)).goto 2).sleep u.cfg.settle := by
  simp only [pullUpU1, hpin, routeClean_good h1 ht hw]

theorem pullUpU2_of_zero (hc : u.facadeClosed = false) (hv : u.env.reads = some x :: vs)
    (hzero : absRat (u.cfg.vScale * x) ≤ u.cfg.tol) : pullUpU2 sub u =
      ((u.hasRead (measPin u.cfg (pairOfPin u.cfg sub.input.pin)) x vs).measured (u.cfg.vScale * x)).goto 3 := by
  have hnear : nearZero u.cfg (u.cfg.vScale * x) = true := decide_eq_true hzero
  simp only [pullUpU2, measure_eq, analogRead_hasRead hc hv, Option.map_some, hnear, if_true]

theorem pullUpU3_of_written (hw : u.writesSucceed 1) : pullUpU3 k u =
    ((u.wrote true [pullupPin u.cfg k]).goto 4).sleep u.cfg.settle := by
  simp only [pullUpU3, setPullup, digitalWrite_wrote hw, if_true]

theorem pullUpU4_of_reading (hc : u.facadeClosed = false) (hv : u.env.reads = some x :: vs) : pullUpU4 sub k u =
    ((u.hasRead (measPin u.cfg (pairOfPin u.cfg sub.input.pin)) x vs).measured (u.cfg.vScale * x)).goto 5 := by
  simp only [pullUpU4, measure_eq, analogRead_hasRead hc hv, Option.map_some]

/-- The exit of U5 when the facade answers well: the pull-up line is LOW (R240). -/
theorem pullUpExit_of_written (why : Reason) (hw : u.writesSucceed 1) :
    pullUpExit k why u = (u.wrote false [pullupPin u.cfg k]).failTo why 12 := by
  simp only [pullUpExit, setPullup, digitalWrite_wrote hw]

theorem pullUpU6_of_written (h : sub.input.pullupInput = ['G']) (hw : u.writesSucceed 1) :
    pullUpU6 sub k u = ((u.wrote false [pullupPin u.cfg k]).verdict true .ok).goto 12 := by
  have hG : isGText sub.input.pullupInput = true := by rw [h]; rfl
  simp only [pullUpU6, hG, if_true, setPullup, digitalWrite_wrote hw]

theorem pullUpU12_of_cleared (hw : u.writesSucceed 16) :
    pullUpU12 u = (u.wrote false u.cfg.linePin.toList).goto 13 := by
  simp only [pullUpU12, restoreLines_good hw]

end

section
variable {b : State} {c : Cfg} {sub : Subject} {k pin : Nat} {l : List Input} {w : Work} {x y : Volts}
  {vs : List (Option Volts)} {good : Bool}

/-- The turn of PullUpTest of subject `k` at step `n`. -/
theorem engineStep_pullUp {n : Nat} (hs : b.subj[k]? = some sub) (h0 : n ≠ 0) :
    engineStep (b.inCheck l ⟨.pullUp, k, n⟩ w) = pullUpStep sub (b.inCheck l ⟨.pullUp, k, n⟩ w) :=
  ((engineStep_subject (s := b.inCheck l ⟨.pullUp, k, n⟩ w) hs).2.1 rfl).trans (if_neg h0)

theorem pullUpU1_run {p : Pattern} (hs : b.subj[k]? = some sub) (hc : b.cfg = c) (hpin : sub.input.pin = pin)
    (h1 : 1 ≤ pin) (ht : tableEntry c pin .A = some p) (hw : b.writesSucceed (16 + (patternLines p).length)) :
    engineStep (b.inCheck l ⟨.pullUp, k, 1⟩ .idle) =
      ((b.wrote false c.linePin.toList).wrote true (linePins c p)).inCheck l ⟨.pullUp, k, 2⟩
        { Work.idle with wake := some (b.env.now + c.settle) } := by
  subst hc
  rw [engineStep_pullUp hs (by decide)]
  exact pullUpU1_of_routed (u := b.inCheck l ⟨.pullUp, k, 1⟩ .idle) hpin h1 ht hw

theorem pullUpU2_run (hs : b.subj[k]? = some sub) (hc : b.cfg = c) (hpin : sub.input.pin = pin)
    (hopen : b.facadeClosed = false) (hv : b.env.reads = some x :: vs) (hzero : absRat (c.vScale * x) ≤ c.tol) :
    engineStep (b.inCheck l ⟨.pullUp, k, 2⟩ .idle) =
      (b.hasRead (measPin c (pairOfPin c pin)) x vs).inCheck l ⟨.pullUp, k, 3⟩
        { Work.idle with measured := some (c.vScale * x) } := by
  subst hc
  rw [engineStep_pullUp hs (by decide), ← hpin]
  exact pullUpU2_of_zero (u := b.inCheck l ⟨.pullUp, k, 2⟩ .idle) hopen hv hzero

theorem pullUpU3_run (hs : b.subj[k]? = some sub) (hc : b.cfg = c) (hpin : sub.input.pin = pin)
    (hw : b.writesSucceed 1) :
    engineStep (b.inCheck l ⟨.pullUp, k, 3⟩ { Work.idle with measured := some y }) =
      (b.wrote true [pullupPin c (pairOfPin c pin)]).inCheck l ⟨.pullUp, k, 4⟩
        { { Work.idle with measured := some y } with wake := some (b.env.now + c.settle) } := by
  subst hc
  rw [engineStep_pullUp hs (by decide), ← hpin]
  exact pullUpU3_of_written (u := b.inCheck l ⟨.pullUp, k, 3⟩ { Work.idle with measured := some y }) hw

theorem pullUpU4_run (hs : b.subj[k]? = some sub) (hc : b.cfg = c) (hpin : sub.input.pin = pin)
    (hopen : b.facadeClosed = false) (hv : b.env.reads = some x :: vs) :
    engineStep (b.inCheck l ⟨.pullUp, k, 4⟩ { Work.idle with measured := some y }) =
      (b.hasRead (measPin c (pairOfPin c pin)) x vs).inCheck l ⟨.pullUp, k, 5⟩
        { Work.idle with measured := some (c.vScale * x) } := by
  subst hc
  rw [engineStep_pullUp hs (by decide), ← hpin]
  exact pullUpU4_of_reading (u := b.inCheck l ⟨.pullUp, k, 4⟩ { Work.idle with measured := some y }) hopen hv

theorem pullUpU5_run (hs : b.subj[k]? = some sub) (hc : b.cfg = c) (hx : absRat (x - sub.input.pullupExpected) ≤ c.tol) :
    engineStep (b.inCheck l ⟨.pullUp, k, 5⟩ { Work.idle with measured := some x }) =
      b.inCheck l ⟨.pullUp, k, 6⟩ { Work.idle with measured := some x } := by
  subst hc
  rw [engineStep_pullUp hs (by decide)]
  exact (pullUpU5_of_measured (u := b.inCheck l ⟨.pullUp, k, 5⟩ { Work.idle with measured := some x }) rfl).trans
    (if_pos hx)

theorem pullUpU5_run_mismatch (hs : b.subj[k]? = some sub) (hc : b.cfg = c) (hpin : sub.input.pin = pin)
    (hx : ¬ absRat (x - sub.input.pullupExpected) ≤ c.tol) (hw : b.writesSucceed 1) :
    engineStep (b.inCheck l ⟨.pullUp, k, 5⟩ { Work.idle with measured := some x }) =
      (b.wrote false [pullupPin c (pairOfPin c pin)]).inCheck l ⟨.pullUp, k, 12⟩
        (Work.judged { Work.idle with measured := some x } false) := by
  subst hc
  rw [engineStep_pullUp hs (by decide), ← hpin]
  have hmiss : ¬ (decide (absRat (x - sub.input.pullupExpected) ≤ b.cfg.tol)) = true := by simpa using hx
  exact (if_neg hmiss).trans
    (pullUpExit_of_written (u := b.inCheck l ⟨.pullUp, k, 5⟩ { Work.idle with measured := some x }) .mismatch hw)

theorem pullUpU6_run (hs : b.subj[k]? = some sub) (hc : b.cfg = c) (hpin : sub.input.pin = pin)
    (hG : sub.input.pullupInput = ['G']) (hw : b.writesSucceed 1) :
    engineStep (b.inCheck l ⟨.pullUp, k, 6⟩ { Work.idle with measured := some x }) =
      (b.wrote false [pullupPin c (pairOfPin c pin)]).inCheck l ⟨.pullUp, k, 12⟩
        (Work.judged { Work.idle with measured := some x } true) := by
  subst hc
  rw [engineStep_pullUp hs (by decide), ← hpin]
  exact pullUpU6_of_written (u := b.inCheck l ⟨.pullUp, k, 6⟩ { Work.idle with measured := some x }) hG hw

/-- How many turns the verdict takes: U5 alone, or U5 and U6. -/
def verdictTurns (good : Bool) : Nat := if good then 2 else 1

/-- From U5 to the cleanup: the pull-up line is LOW on both verdicts (R240, R241). -/
theorem stepN_pullUpVerdict {m : Nat} (hs : b.subj[k]? = some sub) (hc : b.cfg = c) (hpin : sub.input.pin = pin)
    (hG : sub.input.pullupInput = ['G']) (hw : b.writesSucceed 1)
    (hgood : good = decide (absRat (x - sub.input.pullupExpected) ≤ c.tol)) :
    stepN (m + verdictTurns good) (b.inCheck (List.replicate (verdictTurns good) .worker ++ l) ⟨.pullUp, k, 5⟩
      { Work.idle with measured := some x }) =
    stepN m ((b.wrote false [pullupPin c (pairOfPin c pin)]).inCheck l ⟨.pullUp, k, 12⟩
      (Work.judged { Work.idle with measured := some x } good)) := by
  subst hgood
  by_cases hx : absRat (x - sub.input.pullupExpected) ≤ c.tol
  · rw [decide_eq_true hx]
    exact (stepN_turn rfl (pullUpU5_run hs hc hx)).trans (stepN_turn rfl (pullUpU6_run hs hc hpin hG hw))
  · rw [decide_eq_false hx]
    exact stepN_turn rfl (pullUpU5_run_mismatch hs hc hpin hx hw)

theorem pullUpU12_run (hs : b.subj[k]? = some sub) (hc : b.cfg = c) (hw : b.writesSucceed 16) :
    engineStep (b.inCheck l ⟨.pullUp, k, 12⟩ (Work.judged { Work.idle with measured := some x } good)) =
      (b.wrote false c.linePin.toList).inCheck l ⟨.pullUp, k, 13⟩
        (Work.judged { Work.idle with measured := some x } good) := by
  subst hc
  rw [engineStep_pullUp hs (by decide)]
  exact pullUpU12_of_cleared (u := b.inCheck l ⟨.pullUp, k, 12⟩ _) hw

theorem pullUpU13_run (hs : b.subj[k]? = some sub) :
    engineStep (b.inCheck l ⟨.pullUp, k, 13⟩ (Work.judged { Work.idle with measured := some x } good)) =
      b.returned l (b.subj.set k { sub with pullupMeasured := some x, pullupResult := if good then .pass else .fail })
        { measured := .volts x, pass := good, reason := if good then .ok else .mismatch } := by
  rw [engineStep_pullUp hs (by decide)]
  exact pullUpU13_alone (u := b.inCheck l ⟨.pullUp, k, 13⟩ _) rfl

end

/-- The second wait is over: it began when the first had ended (R13). -/
theorem settled_twice {now settle t0 t1 : Time} (h0 : now + settle ≤ t0) (h1 : t0 + settle ≤ t1) :
    max now t0 + settle ≤ max (max now t0) t1 := by
  rcases max_choice now t0 with h | h <;> rw [h]
  · exact (h0.trans (h ▸ le_max_right now t0)).trans (le_max_left _ _)
  · exact h1.trans (le_max_right _ _)

/-- Settles O37. -/
theorem pullUpTestWithG : Obligations.PullUpTestWithG := by
  unfold Obligations.PullUpTestWithG
  intro s k pin sub p pv v0 v1 vs t0 t1 rest hb hk hs hpin h1 hpass hpv hlow htab hG hw hreads hzero ht0 ht1
    m good later last hagenda
  have hwf : (Instr.pup k).wf = true := by simpa [Instr.wf, fitsA] using hk
  have hsubj {b : State} (h : b.subj = s.subj) : b.subj[k]? = some sub := h ▸ hs
  have heligible : eligible s.cfg .pullUp sub = true := eligible_pullUp_iff.2 ⟨hpass, pv, hpv, hlow⟩
  have hrouted := hw.from 0 (16 + (patternLines p).length) (by omega)
  have hraised := hw.from (16 + (patternLines p).length) 1 (by omega)
  have hlowered := hw.from (16 + (patternLines p).length + 1) 1 (by omega)
  have hcleared := hw.from (16 + (patternLines p).length + 2) 16 le_rfl
  have hturns : (if good then 11 else 10) = 2 + verdictTurns good + 7 := by cases good <;> rfl
  have hagenda' : s.env.agenda = .command (encode (.pup k)) :: .worker :: .clock t0 :: .worker :: .worker ::
      .clock t1 :: .worker :: (List.replicate (verdictTurns good) .worker ++ .worker :: .worker :: rest) := by
    rw [hagenda]
    cases good <;> rfl
  have hrun := calc
    stepN (if good then 11 else 10) s = stepN (2 + verdictTurns good + 7) s := by rw [hturns]
    _ = stepN (2 + verdictTurns good + 6) (s.inCheck _ ⟨.pullUp, k, 1⟩ .idle) :=
      stepN_request hagenda' hwf rfl (fun t hb' ht hcfg => congrArg Host.Outcome.next
        (requestCheck_eligible (p := .pullUp) hb' (hsubj ht) (hcfg ▸ heligible))) hb
    _ = stepN (2 + verdictTurns good + 5) _ := stepN_turn rfl (pullUpU1_run hs rfl hpin h1 htab hrouted)
    _ = stepN (2 + verdictTurns good + 4) _ := stepN_tick
    _ = stepN (2 + verdictTurns good + 3) _ := stepN_wakes rfl (by simpa using .inr ht0)
      (pullUpU2_run (c := s.cfg) (hsubj (by simp)) (by simp) hpin (by simpa using hw.1) (by simpa using hreads) hzero)
    _ = stepN (2 + verdictTurns good + 2) _ :=
      stepN_turn rfl (pullUpU3_run (c := s.cfg) (hsubj (by simp)) (by simp) hpin
      (by simpa [State.writesSucceed_iff, linePins_length, ← Nat.add_assoc] using hraised))
    _ = stepN (2 + verdictTurns good + 1) _ := stepN_tick
    _ = stepN (2 + verdictTurns good) _ := stepN_wakes rfl (settled_twice ht0 ht1)
      (pullUpU4_run (c := s.cfg) (x := v1) (vs := vs) (hsubj (by simp)) (by simp) hpin (by simpa using hw.1) (by simp))
    _ = stepN 2 _ := stepN_pullUpVerdict (c := s.cfg) (hsubj (by simp)) (by simp) hpin hG
      (by simpa [State.writesSucceed_iff, linePins_length, ← Nat.add_assoc] using hlowered) rfl
    _ = stepN 1 _ := stepN_turn rfl (pullUpU12_run (c := s.cfg) (hsubj (by simp)) (by simp)
      (by simpa [State.writesSucceed_iff, linePins_length, ← Nat.add_assoc] using hcleared))
    _ = stepN 0 _ := stepN_turn rfl (pullUpU13_run (hsubj (by simp)))
  refine ⟨_, hrun, by simp [m, good], by simp [m, good], by simp [later, last, writeCalls], by simp, fun i => ?_, ?_,
    rfl, rfl, by simp, rfl⟩
  · rw [State.returned_line]
    exact State.wrote_line (by simp) i
  · simp [State.pullup, State.wrote_fp]

end Sys2Proof.Machine

/-!
PROOFS about LogicTest, run from the request to the response (R227, R247 to R249).
-/

namespace Sys2Proof.Machine

/-! ## Relays -/

/-- A pair has two relay pins (R9). -/
@[simp] theorem relayPins_length (c : Cfg) (k : Nat) : (relayPins c k).length = 2 := rfl

theorem setRelay_good {s : State} (hw : s.writesSucceed 2) (k : Nat) (level : Bool) :
    setRelay k level s = (true, s.wrote level (relayPins s.cfg k)) :=
  drivePins_good level (relayPins s.cfg k) hw

/-- After the relays and then the control lines are written LOW, no relay is HIGH (R229). -/
theorem State.wrote_relay {s : State} {c : Cfg} {ps : List FacadePin} {k : Nat} (hc : s.cfg = c)
    (hps : ∀ q ∈ relayPins c k, q ∈ ps) :
    ∀ l ∈ ((s.wrote false ps).wrote false c.linePin.toList).relay k, l = some false := by
  subst hc
  intro l hl
  obtain ⟨q, hq, rfl⟩ := List.mem_map.1 hl
  simp [State.wrote_fp, hps q hq]

/-! ## The steps of LogicTest -/

section
variable {u : State} {sub : Subject}

theorem logicG1_of_routed {pin : Nat} {p : Pattern} (hpin : sub.input.pin = pin) (h1 : 1 ≤ pin)
    (ht : tableEntry u.cfg pin .A = some p) (hw : u.writesSucceed (16 + (patternLines p).length)) :
    logicG1 sub u = ((u.wrote false u.cfg.linePin.toList).wrote true (linePins u.cfg p)).goto 2 := by
  simp only [logicG1, hpin, routeClean_good h1 ht hw]

theorem logicG3_of_routed {pin : Nat} {p : Pattern} (hpin : u.work.secondPin = pin) (h1 : 1 ≤ pin)
    (ht : tableEntry u.cfg pin .B = some p) (hw : u.writesSucceed (patternLines p).length) :
    logicG3 u = (u.wrote true (linePins u.cfg p)).goto 4 := by
  simp only [logicG3, hpin, routePin_good h1 ht hw]

/-- Both pairs' relays are driven HIGH, in their order (R227). -/
theorem logicG4_of_written (hw : u.writesSucceed (2 + 2)) : logicG4 sub u =
    (((u.wrote true (relayPins u.cfg (pairOfPin u.cfg sub.input.pin))).wrote true
      (relayPins u.cfg (pairOfPin u.cfg u.work.secondPin))).setWork { u.work with relays := 2 }).goto 5 := by
  obtain ⟨hfirst, hsecond⟩ := State.writesSucceed_split hw true (relayPins u.cfg (pairOfPin u.cfg sub.input.pin)) rfl
  have h1 := setRelay_good (s := u.setWork { u.work with relays := 1 }) hfirst (pairOfPin u.cfg sub.input.pin) true
  have h2 := setRelay_good (s := (u.wrote true (relayPins u.cfg (pairOfPin u.cfg sub.input.pin))).setWork
    { u.work with relays := 2 }) hsecond (pairOfPin u.cfg u.work.secondPin) true
  simp only [logicG4, h1, if_true]
  exact congrArg (fun r : Bool × State => if r.1 then r.2.goto 5 else r.2.failTo .facadeFailure 8) h2

theorem logicG6_of_some {e : LogicExpectation} (h : parseLogicExpected sub.input.logicExpected = some e) :
    logicG6 sub u = u.goto 7 := by
  simp only [logicG6, h]

theorem logicG7_of_bit {e : LogicExpectation} {d : Bool}
    (h : fleetGet e.card (digitalInput e.number) u = .okValue (.bool d)) :
    logicG7 e u = ((u.setWork { u.work with bitRead := some d }).judge (decide (d = e.bit))).goto 8 := by
  simp only [logicG7, h]

theorem logicG8_of_written (hr : u.work.relays = 2) (hw : u.writesSucceed (4 + 16)) : logicG8 sub u =
    ((u.wrote false (relayPins u.cfg (pairOfPin u.cfg sub.input.pin) ++
      relayPins u.cfg (pairOfPin u.cfg u.work.secondPin))).wrote false u.cfg.linePin.toList).goto 9 := by
  obtain ⟨hrelays, hlines⟩ := State.writesSucceed_split hw false (relayPins u.cfg (pairOfPin u.cfg sub.input.pin) ++
    relayPins u.cfg (pairOfPin u.cfg u.work.secondPin)) rfl
  have hlow := restorePins_good (relayPins u.cfg (pairOfPin u.cfg sub.input.pin) ++
    relayPins u.cfg (pairOfPin u.cfg u.work.secondPin)) hrelays
  simp only [logicG8, hr, show (1 ≤ 2) from by decide, show (2 ≤ 2) from le_rfl, if_true, hlow, restoreLines_good hlines,
    State.wrote_cfg]

end

section
variable {b : State} {c : Cfg} {sub : Subject} {k pin : Nat} {l : List Input} {w : Work} {pin' : Int}

/-- The turn of LogicTest of subject `k` at step `n`. -/
theorem engineStep_logic {n : Nat} (hs : b.subj[k]? = some sub) (h0 : n ≠ 0) :
    engineStep (b.inCheck l ⟨.logic, k, n⟩ w) = logicStep sub (b.inCheck l ⟨.logic, k, n⟩ w) :=
  ((engineStep_subject (s := b.inCheck l ⟨.logic, k, n⟩ w) hs).2.2 rfl).trans (if_neg h0)

theorem logicG1_run {p : Pattern} (hs : b.subj[k]? = some sub) (hc : b.cfg = c) (hpin : sub.input.pin = pin)
    (h1 : 1 ≤ pin) (ht : tableEntry c pin .A = some p) (hw : b.writesSucceed (16 + (patternLines p).length)) :
    engineStep (b.inCheck l ⟨.logic, k, 1⟩ .idle) =
      ((b.wrote false c.linePin.toList).wrote true (linePins c p)).inCheck l ⟨.logic, k, 2⟩ .idle := by
  subst hc
  rw [engineStep_logic hs (by decide)]
  exact logicG1_of_routed (u := b.inCheck l ⟨.logic, k, 1⟩ .idle) hpin h1 ht hw

theorem logicG2_run {other : Subject} (hs : b.subj[k]? = some sub) (hc : b.cfg = c)
    (hother : secondSubject b.subj sub.input.logicPinInput = some other) (he : eligiblePullUp c other = true) :
    engineStep (b.inCheck l ⟨.logic, k, 2⟩ .idle) =
      b.inCheck l ⟨.logic, k, 3⟩ { Work.idle with secondPin := other.input.pin } := by
  subst hc
  rw [engineStep_logic hs (by decide)]
  exact (logicG2_of_some (u := b.inCheck l ⟨.logic, k, 2⟩ .idle) hother).trans (if_pos he)

theorem logicG3_run {p : Pattern} (hs : b.subj[k]? = some sub) (hc : b.cfg = c) (hpin : pin' = pin)
    (h1 : 1 ≤ pin) (ht : tableEntry c pin .B = some p) (hw : b.writesSucceed (patternLines p).length) :
    engineStep (b.inCheck l ⟨.logic, k, 3⟩ { Work.idle with secondPin := pin' }) =
      (b.wrote true (linePins c p)).inCheck l ⟨.logic, k, 4⟩ { Work.idle with secondPin := pin' } := by
  subst hc
  rw [engineStep_logic hs (by decide)]
  exact logicG3_of_routed (u := b.inCheck l ⟨.logic, k, 3⟩ { Work.idle with secondPin := pin' }) hpin h1 ht hw

theorem logicG4_run (hs : b.subj[k]? = some sub) (hc : b.cfg = c) (hpin : sub.input.pin = pin)
    (hw : b.writesSucceed (2 + 2)) :
    engineStep (b.inCheck l ⟨.logic, k, 4⟩ { Work.idle with secondPin := pin' }) =
      ((b.wrote true (relayPins c (pairOfPin c pin))).wrote true (relayPins c (pairOfPin c pin'))).inCheck l
        ⟨.logic, k, 5⟩ { Work.idle with secondPin := pin', relays := 2 } := by
  subst hc
  rw [engineStep_logic hs (by decide), ← hpin]
  exact logicG4_of_written (u := b.inCheck l ⟨.logic, k, 4⟩ { Work.idle with secondPin := pin' }) hw

theorem logicG5_run (hs : b.subj[k]? = some sub) (hc : b.cfg = c) :
    engineStep (b.inCheck l ⟨.logic, k, 5⟩ { Work.idle with secondPin := pin', relays := 2 }) =
      b.inCheck l ⟨.logic, k, 6⟩
        { { Work.idle with secondPin := pin', relays := 2 } with wake := some (b.env.now + c.settle) } := by
  subst hc
  rw [engineStep_logic hs (by decide)]
  rfl

theorem logicG6_run {e : LogicExpectation} (hs : b.subj[k]? = some sub)
    (he : parseLogicExpected sub.input.logicExpected = some e) :
    engineStep (b.inCheck l ⟨.logic, k, 6⟩ { Work.idle with secondPin := pin', relays := 2 }) =
      b.inCheck l ⟨.logic, k, 7⟩ { Work.idle with secondPin := pin', relays := 2 } := by
  rw [engineStep_logic hs (by decide)]
  exact logicG6_of_some (u := b.inCheck l ⟨.logic, k, 6⟩ { Work.idle with secondPin := pin', relays := 2 }) he

/-- The values of a LogicTest that has read its input. -/
def Work.logicRead (pin : Int) (d : Bool) : Work := { Work.idle with secondPin := pin, relays := 2, bitRead := some d }

theorem logicG7_run {e : LogicExpectation} {d : Bool} (hs : b.subj[k]? = some sub)
    (he : parseLogicExpected sub.input.logicExpected = some e)
    (hd : fleetGet e.card (digitalInput e.number) b = .okValue (.bool d)) :
    engineStep (b.inCheck l ⟨.logic, k, 7⟩ { Work.idle with secondPin := pin', relays := 2 }) =
      b.inCheck l ⟨.logic, k, 8⟩ ((Work.logicRead pin' d).judged (decide (d = e.bit))) := by
  rw [engineStep_logic hs (by decide)]
  have hG7 : logicStep sub (b.inCheck l ⟨.logic, k, 7⟩ { Work.idle with secondPin := pin', relays := 2 }) =
      logicG7 e (b.inCheck l ⟨.logic, k, 7⟩ { Work.idle with secondPin := pin', relays := 2 }) := by
    change logicG7 ((parseLogicExpected sub.input.logicExpected).getD default) _ = _
    rw [he]
    rfl
  rw [hG7]
  exact logicG7_of_bit (u := b.inCheck l ⟨.logic, k, 7⟩ { Work.idle with secondPin := pin', relays := 2 }) hd

theorem logicG8_run {d good : Bool} (hs : b.subj[k]? = some sub) (hc : b.cfg = c) (hpin : sub.input.pin = pin)
    (hw : b.writesSucceed (4 + 16)) :
    engineStep (b.inCheck l ⟨.logic, k, 8⟩ ((Work.logicRead pin' d).judged good)) =
      ((b.wrote false (relayPins c (pairOfPin c pin) ++ relayPins c (pairOfPin c pin'))).wrote false
        c.linePin.toList).inCheck l ⟨.logic, k, 9⟩ ((Work.logicRead pin' d).judged good) := by
  subst hc
  rw [engineStep_logic hs (by decide), ← hpin]
  exact logicG8_of_written (u := b.inCheck l ⟨.logic, k, 8⟩ ((Work.logicRead pin' d).judged good)) rfl hw

theorem logicG9_run {d good : Bool} (hs : b.subj[k]? = some sub) :
    engineStep (b.inCheck l ⟨.logic, k, 9⟩ ((Work.logicRead pin' d).judged good)) =
      b.returned l (b.subj.set k { sub with logicResult := if good then .pass else .fail })
        { measured := .bit d, pass := good, reason := if good then .ok else .mismatch } := by
  rw [engineStep_logic hs (by decide)]
  exact logicG9_alone (u := b.inCheck l ⟨.logic, k, 9⟩ _) rfl

end

/-- Settles O38. -/
theorem logicTestReadsTheInput : Obligations.LogicTestReadsTheInput := by
  unfold Obligations.LogicTestReadsTheInput
  intro s k pin pin' sub other p p' e ch buf y pv qv t0 rest hb hk hs hpin h1 hpass hpv hlow hname hfind hopass hqv hzero
    hpin' h1' htab htab' he hchan hrf hlo hhi hy hw ht0 hagenda d good later relays
  have hwf : (Instr.lgc k).wf = true := by simpa [Instr.wf, fitsA] using hk
  have hsubj {b : State} (h : b.subj = s.subj) : b.subj[k]? = some sub := h ▸ hs
  have heligible : eligible s.cfg .logic sub = true := eligible_logic_iff.2 ⟨hpass, pv, hpv, hlow⟩
  have hother {b : State} (h : b.subj = s.subj) : secondSubject b.subj sub.input.logicPinInput = some other :=
    h ▸ secondSubject_some hname hfind
  have hbit {b : State} (h : b.chan e.card = s.chan e.card) :
      fleetGet e.card (digitalInput e.number) b = .okValue (.bool d) := by
    rw [fleetGet_of_chan (h.trans hchan), digitalInput_of_frame hrf hlo hhi, getBit,
      rxByte_of_getElem? (show buf[byteOff 2 e.number]? = some y from hy)]
    rfl
  have hrouted := hw.from 0 (16 + (patternLines p).length) (by omega)
  have hrouted' := hw.from (16 + (patternLines p).length) (patternLines p').length (by omega)
  have hraised := hw.from (16 + (patternLines p).length + (patternLines p').length) 4 (by omega)
  have hrestored := hw.from (16 + (patternLines p).length + (patternLines p').length + 4) 20 (by omega)
  have hrun := calc
    stepN 11 s = stepN 10 (s.inCheck (List.replicate 5 .worker ++ .clock t0 :: (List.replicate 4 .worker ++ rest))
      ⟨.logic, k, 1⟩ .idle) := stepN_request hagenda hwf rfl (fun t hb' ht hcfg => congrArg Host.Outcome.next
        (requestCheck_eligible (p := .logic) hb' (hsubj ht) (hcfg ▸ heligible))) hb
    _ = stepN 9 _ := stepN_turn rfl (logicG1_run hs rfl hpin h1 htab hrouted)
    _ = stepN 8 _ := stepN_turn rfl (logicG2_run (c := s.cfg) (hsubj (by simp)) (by simp) (hother (by simp))
      (eligiblePullUp_iff.2 ⟨hopass, qv, hqv, hzero⟩))
    _ = stepN 7 _ := stepN_turn rfl (logicG3_run (c := s.cfg) (hsubj (by simp)) (by simp) hpin' h1' htab'
      (by simpa [State.writesSucceed_iff, linePins_length] using hrouted'))
    _ = stepN 6 _ := stepN_turn rfl (logicG4_run (c := s.cfg) (hsubj (by simp)) (by simp) hpin
      (by simpa [State.writesSucceed_iff, linePins_length, ← Nat.add_assoc] using hraised))
    _ = stepN 5 _ := stepN_turn rfl (logicG5_run (c := s.cfg) (hsubj (by simp)) (by simp))
    _ = stepN 4 _ := stepN_tick
    _ = stepN 3 _ := stepN_wakes rfl (by simpa using .inr ht0) (logicG6_run (hsubj (by simp)) he)
    _ = stepN 2 _ := stepN_turn rfl (logicG7_run (d := d) (hsubj (by simp)) he (hbit (by simp)))
    _ = stepN 1 _ := stepN_turn rfl (logicG8_run (c := s.cfg) (hsubj (by simp)) (by simp) hpin
      (by simpa [State.writesSucceed_iff, linePins_length, ← Nat.add_assoc] using hrestored))
    _ = stepN 0 _ := stepN_turn rfl (logicG9_run (hsubj (by simp)))
  refine ⟨_, hrun, by simp [good], by simp [good], by simp [later, relays, writeCalls, hpin'], by simp, fun i => ?_, ?_,
    rfl, rfl, by simp, by simp, rfl⟩
  · rw [State.returned_line]
    exact State.wrote_line (by simp) i
  · rw [State.returned_relay, State.returned_relay]
    intro l hl
    rcases List.mem_append.1 hl with hl | hl
    · exact State.wrote_relay (c := s.cfg) (by simp) (fun q hq => List.mem_append_left _ hq) l hl
    · exact State.wrote_relay (c := s.cfg) (by simp) (fun q hq => List.mem_append_right _ (hpin' ▸ hq)) l hl

end Sys2Proof.Machine

/-!
PROOFS about RelayFuseTest, run from the request to the response (R190, R257).
-/

namespace Sys2Proof.Machine

/-- The values of a RelayFuseTest of two pairs. -/
def Work.ofPairs (ka kb : Nat) : Work := { Work.idle with pairA := ka, pairB := kb }

/-- Its values once both channels are read. -/
def Work.pairsRead (ka kb : Nat) (va vb : Volts) : Work := { Work.ofPairs ka kb with both := some (va, vb) }

/-! ## The stop of the channels (F1) -/

section
variable {s b : State} {l : List Input} {pos : SeqPos} {w : Work} {ka kb : Nat}

/-- A stop writes a channel only (R172). -/
theorem fleetStop_frame (c : Int) (s : State) : (fleetStop c s).2 = s.setFleet (fleetStop c s).2.fleet := by
  unfold fleetStop
  split <;> rfl

theorem fleetStop_inCheck (c : Int) (b : State) :
    (fleetStop c (b.inCheck l pos w)).2 = (fleetStop c b).2.inCheck l pos w := by
  unfold fleetStop
  rw [State.chan_congr (s := b) (t := b.inCheck l pos w) rfl]
  split <;> rfl

/-- The turn of RelayFuseTest at step `n`. -/
theorem engineStep_relay {n : Nat} :
    engineStep (b.inCheck l ⟨.relayFuse, 0, n⟩ w) = relayStep (b.inCheck l ⟨.relayFuse, 0, n⟩ w) := rfl

theorem relayF1_run (i : Nat) :
    engineStep (b.inCheck l ⟨.relayFuse, 0, 1⟩ { Work.ofPairs ka kb with sub := i }) =
      if i < 6 then (fleetStop (i + 1) b).2.inCheck l ⟨.relayFuse, 0, 1⟩ { Work.ofPairs ka kb with sub := i + 1 }
      else (fleetStop (i + 1) b).2.inCheck l ⟨.relayFuse, 0, 2⟩ (.ofPairs ka kb) := by
  rw [engineStep_relay]
  change relayF1 _ = _
  unfold relayF1
  dsimp only
  rw [fleetStop_inCheck]
  rfl

/-- What the stops of the cards `i + 1` to 7 leave: a fleet whose channels of these cards are stopped (R190). -/
theorem stepN_stops (n i : Nat) (b : State) (hi : i + n = 6) : ∃ f,
    (∀ d : Int, (b.setFleet f).chan d = if i + 1 ≤ d ∧ d ≤ 7 then (b.chan d).map Channel.stopped else b.chan d) ∧
    ∀ m, stepN (m + (n + 1)) (b.inCheck (List.replicate (n + 1) .worker ++ l) ⟨.relayFuse, 0, 1⟩
      { Work.ofPairs ka kb with sub := i }) = stepN m ((b.setFleet f).inCheck l ⟨.relayFuse, 0, 2⟩ (.ofPairs ka kb)) := by
  induction n generalizing i b with
  | zero =>
    refine ⟨(fleetStop (i + 1) b).2.fleet, fun d => ?_, fun m => ?_⟩
    · rw [← fleetStop_frame, fleetStop_chan]
      by_cases hd : d = i + 1
      · subst hd
        rw [if_pos rfl, if_pos (by omega)]
      · rw [if_neg hd, if_neg (by omega)]
    · refine stepN_turn rfl ((relayF1_run i).trans ?_)
      rw [if_neg (by omega), ← fleetStop_frame]
      rfl
  | succ n ih =>
    obtain ⟨f, hchan, hrun⟩ := ih (i + 1) (fleetStop (i + 1) b).2 (by omega)
    have hbase : (fleetStop (i + 1) b).2.setFleet f = b.setFleet f := by rw [fleetStop_frame]; rfl
    rw [hbase] at hchan hrun
    refine ⟨f, fun d => ?_, fun m => ?_⟩
    · rw [hchan, fleetStop_chan]
      by_cases hd : d = i + 1
      · subst hd
        rw [if_neg (by omega), if_pos rfl, if_pos (by omega)]
      · rw [if_neg hd]
        refine if_congr ?_ rfl rfl
        omega
    · refine (stepN_turn rfl ((relayF1_run i).trans (if_pos (by omega)))).trans ?_
      exact hrun m

/-- What `stopAll()` leaves of a channel (R172, R190). -/
def StoppedAll (s t : State) : Prop :=
  ∀ (c : Int) (ch : Channel), s.chan c = some ch →
    t.chan c = some (if ch.run = .running then { ch with run := .stopped } else ch)

theorem stepN_stopAll (b : State) : ∃ f, StoppedAll b (b.setFleet f) ∧
    ∀ m, stepN (m + 7) (b.inCheck (List.replicate 7 .worker ++ l) ⟨.relayFuse, 0, 1⟩ (.ofPairs ka kb)) =
      stepN m ((b.setFleet f).inCheck l ⟨.relayFuse, 0, 2⟩ (.ofPairs ka kb)) := by
  obtain ⟨f, hchan, hrun⟩ := stepN_stops (ka := ka) (kb := kb) (l := l) 6 0 b rfl
  refine ⟨f, fun c ch hc => ?_, hrun⟩
  have hbounds := State.chan_bounds hc
  rw [hchan, if_pos (by omega), hc, Option.map_some, Channel.stopped_eq]

end

/-! ## The other steps -/

@[simp] theorem State.setFleet_writesFrom (s : State) (f : Vector (Option Channel) 7) (a n : Nat) :
    (s.setFleet f).writesFrom a n ↔ s.writesFrom a n := .rfl

section
variable {u : State} {ka kb : Nat} {x y : Volts} {vs : List (Option Volts)}

theorem relayF2_of_written (hw : u.writesSucceed 5) : relayF2 ka kb u =
    (u.wrote true (relayPins u.cfg ka ++ relayPins u.cfg kb ++ [sharedPullupPin u.cfg ka kb])).goto 3 := by
  have hdrive := drivePins_good true (relayPins u.cfg ka ++ relayPins u.cfg kb ++ [sharedPullupPin u.cfg ka kb])
    (s := u) hw
  simp only [relayF2, hdrive, if_true]

/-- Both channels are read, the first pair's first (R257). -/
theorem relayF4_of_readings (hc : u.facadeClosed = false) (hv : u.env.reads = some x :: some y :: vs) :
    relayF4 ka kb u =
      (((u.hasRead (measPin u.cfg ka) x (some y :: vs)).hasRead (measPin u.cfg kb) y vs).setWork
        { u.work with both := some (u.cfg.vScale * x, u.cfg.vScale * y) }).goto 5 := by
  have h1 := analogRead_hasRead hc hv (measPin u.cfg ka)
  have h2 := analogRead_hasRead (s := u.hasRead (measPin u.cfg ka) x (some y :: vs)) hc rfl (measPin u.cfg kb)
  simp only [relayF4, measurePair, h1, h2, State.hasRead_cfg, Option.map_some]
  rfl

theorem relayF6_of_written (hw : u.writesSucceed (5 + 16)) : relayF6 ka kb u =
    ((u.wrote false (sharedPullupPin u.cfg ka kb :: (relayPins u.cfg ka ++ relayPins u.cfg kb))).wrote false
      u.cfg.linePin.toList).goto 7 := by
  obtain ⟨haux, hlines⟩ := State.writesSucceed_split hw false
    (sharedPullupPin u.cfg ka kb :: (relayPins u.cfg ka ++ relayPins u.cfg kb)) rfl
  have hlow := restorePins_good (sharedPullupPin u.cfg ka kb :: (relayPins u.cfg ka ++ relayPins u.cfg kb)) haux
  simp only [relayF6, hlow, restoreLines_good hlines, State.wrote_cfg]

end

section
variable {b : State} {c : Cfg} {l : List Input} {ka kb : Nat} {x y : Volts} {vs : List (Option Volts)} {good : Bool}

theorem relayF2_run (hc : b.cfg = c) (hw : b.writesSucceed 5) :
    engineStep (b.inCheck l ⟨.relayFuse, 0, 2⟩ (.ofPairs ka kb)) =
      (b.wrote true (relayPins c ka ++ relayPins c kb ++ [sharedPullupPin c ka kb])).inCheck l ⟨.relayFuse, 0, 3⟩
        (.ofPairs ka kb) := by
  subst hc
  exact relayF2_of_written (u := b.inCheck l ⟨.relayFuse, 0, 2⟩ (.ofPairs ka kb)) hw

theorem relayF3_run (hc : b.cfg = c) : engineStep (b.inCheck l ⟨.relayFuse, 0, 3⟩ (.ofPairs ka kb)) =
    b.inCheck l ⟨.relayFuse, 0, 4⟩ { Work.ofPairs ka kb with wake := some (b.env.now + c.settle) } := by
  subst hc
  rfl

theorem relayF4_run (hc : b.cfg = c) (hopen : b.facadeClosed = false) (hv : b.env.reads = some x :: some y :: vs) :
    engineStep (b.inCheck l ⟨.relayFuse, 0, 4⟩ (.ofPairs ka kb)) =
      ((b.hasRead (measPin c ka) x (some y :: vs)).hasRead (measPin c kb) y vs).inCheck l ⟨.relayFuse, 0, 5⟩
        (.pairsRead ka kb (c.vScale * x) (c.vScale * y)) := by
  subst hc
  exact relayF4_of_readings (u := b.inCheck l ⟨.relayFuse, 0, 4⟩ (.ofPairs ka kb)) hopen hv

theorem relayF5_run (hc : b.cfg = c) : engineStep (b.inCheck l ⟨.relayFuse, 0, 5⟩ (.pairsRead ka kb x y)) =
    b.inCheck l ⟨.relayFuse, 0, 6⟩ ((Work.pairsRead ka kb x y).judged (decide (absRat (x - y) ≤ c.tol))) := by
  subst hc
  rfl

theorem relayF6_run (hc : b.cfg = c) (hw : b.writesSucceed (5 + 16)) :
    engineStep (b.inCheck l ⟨.relayFuse, 0, 6⟩ ((Work.pairsRead ka kb x y).judged good)) =
      ((b.wrote false (sharedPullupPin c ka kb :: (relayPins c ka ++ relayPins c kb))).wrote false
        c.linePin.toList).inCheck l ⟨.relayFuse, 0, 7⟩ ((Work.pairsRead ka kb x y).judged good) := by
  subst hc
  exact relayF6_of_written (u := b.inCheck l ⟨.relayFuse, 0, 6⟩ ((Work.pairsRead ka kb x y).judged good)) hw

theorem relayF7_run : engineStep (b.inCheck l ⟨.relayFuse, 0, 7⟩ ((Work.pairsRead ka kb x y).judged good)) =
    b.returned l b.subj { measured := .both x y, pass := good, reason := if good then .ok else .mismatch } :=
  State.finish_alone (s := b.inCheck l ⟨.relayFuse, 0, 7⟩ ((Work.pairsRead ka kb x y).judged good)) rfl _

end

/-- Settles O39. -/
theorem relayFuseTestCompares : Obligations.RelayFuseTestCompares := by
  unfold Obligations.RelayFuseTestCompares
  intro s ka kb va vb vs t0 rest hb hka hkb hw hreads ht0 hagenda ma mb good later shared relays
  have hwf : (Instr.rft ka kb).wf = true := by simp [Instr.wf, fitsA, fitsPairB, hka, hkb]
  have hraised := hw.from 0 5 (by omega)
  have hrestored := hw.from 5 (5 + 16) (by omega)
  obtain ⟨f, hstopped, hstops⟩ := stepN_stopAll (ka := ka) (kb := kb)
    (l := .worker :: .worker :: .clock t0 :: (List.replicate 4 .worker ++ rest)) s
  have hrun := calc
    stepN 15 s = stepN 14 (s.inCheck _ ⟨.relayFuse, 0, 1⟩ (.ofPairs ka kb)) := stepN_request hagenda hwf rfl
      (fun t hb' _ _ => congrArg Host.Outcome.next (whenIdle_idle hb' _)) hb
    _ = stepN 7 _ := hstops 7
    _ = stepN 6 _ := stepN_turn rfl (relayF2_run (c := s.cfg) (by simp) hraised)
    _ = stepN 5 _ := stepN_turn rfl (relayF3_run (c := s.cfg) (by simp))
    _ = stepN 4 _ := stepN_tick
    _ = stepN 3 _ := stepN_wakes rfl (by simpa using .inr ht0)
      (relayF4_run (c := s.cfg) (by simp) (by simpa using hw.1) (by simpa using hreads))
    _ = stepN 2 _ := stepN_turn rfl (relayF5_run (c := s.cfg) (by simp))
    _ = stepN 1 _ := stepN_turn rfl (relayF6_run (c := s.cfg) (by simp)
      (by simpa [State.writesSucceed_iff] using hrestored))
    _ = stepN 0 _ := stepN_turn rfl relayF7_run
  refine ⟨_, hrun, by simp [good, ma, mb], fun i => ?_, ?_, ?_, by simp [later, relays, shared, writeCalls], by simp,
    fun c ch hc => ?_, by simp, rfl, rfl, by simp, rfl⟩
  · rw [State.returned_line]
    exact State.wrote_line (by simp) i
  · rw [State.returned_relay, State.returned_relay]
    intro l hl
    rcases List.mem_append.1 hl with hl | hl
    · exact State.wrote_relay (c := s.cfg) (by simp)
        (fun q hq => List.mem_cons_of_mem _ (List.mem_append_left _ hq)) l hl
    · exact State.wrote_relay (c := s.cfg) (by simp)
        (fun q hq => List.mem_cons_of_mem _ (List.mem_append_right _ hq)) l hl
  · simp [State.sharedPullup, State.wrote_fp]
  · simpa using hstopped c ch hc

end Sys2Proof.Machine
